-- ==== Sys2Proof/Word.lean ====
section
/-! DEFINITION. The two word types of the machine (00_scope.md R6: REG8_BITS, REG16_BITS).

Every 8-bit field of the spec is a `Byte`, every 16-bit field a `Word`; arithmetic on them wraps modulo
their width (10_state.md R20). -/

namespace Sys2Proof

/-- An 8-bit register, memory byte or port value. -/
abbrev Byte := BitVec 8

/-- A 16-bit register, memory address or port address. -/
abbrev Word := BitVec 16

end Sys2Proof
end

