-- ==== Sys2Proof/Machine/Bytes.lean ====
section
/-! DEFINITION. Byte order, sign extension and single-bit helpers (00_scope.md R7, 20_memory.md R65). -/

namespace Sys2Proof

/-- `{hi, lo}`: the word whose high byte is `hi` (00_scope.md R7). -/
def mkWord (hi lo : Byte) : Word := hi ++ lo

/-- `v[15:8]` (00_scope.md R7). -/
def hiByte (v : Word) : Byte := v.extractLsb' 8 8

/-- `v[7:0]` (00_scope.md R7). -/
def loByte (v : Word) : Byte := v.extractLsb' 0 8

/-- `sext_8`, as a 16-bit addend (00_scope.md R7, 30_encoding.md R95). -/
def sext8 (d : Byte) : Word := d.signExtend 16

/-- `{v[6:0], b}`: `v` moved one place to the left, `b` in bit 0. -/
def shiftInLeft (v : Byte) (b : Bool) : Byte := BitVec.concat (v.extractLsb' 0 7) b

/-- `{b, v[7:1]}`: `v` moved one place to the right, `b` in bit 7. -/
def shiftInRight (b : Bool) (v : Byte) : Byte := BitVec.cons b (v.extractLsb' 1 7)

/-- `1 << b` in a byte. -/
def bitMask (b : BitVec 3) : Byte := 1#8 <<< b.toNat

end Sys2Proof
end

