-- ==== Sys2Proof/Syntax.lean ====
section
/-! DEFINITION. The instruction set CORE-ISA (30_encoding.md R93): one constructor per row of
spec/opcode_table.json, 114 in all. -/

namespace Sys2Proof

/-- `r[i]` without index 6, which is the memory operand `(HL)` (30_encoding.md R96): the forms with
`(HL)` are rows of their own. -/
inductive Reg where
  | b | c | d | e | h | l | a
  deriving DecidableEq, Repr

/-- `rp[p]`, the operand classes `dd` and `ss` (30_encoding.md R96). -/
inductive RegPair where
  | bc | de | hl | sp
  deriving DecidableEq, Repr

/-- `rp2[p]`, the operand class `qq` (30_encoding.md R96). -/
inductive StackPair where
  | bc | de | hl | af
  deriving DecidableEq, Repr

/-- `cc[y]` (30_encoding.md R96): NZ, Z, NC, C, PO, PE, P, M. -/
inductive Cond where
  | nz | z | nc | c | po | pe | p | m
  deriving DecidableEq, Repr

/-- The instructions. `n` is an 8-bit immediate, `nn` a 16-bit one, `d` the displacement byte before sign
extension (30_encoding.md R95), `b` a bit number. -/
inductive Instr where
  /-- LD dd,nn (40_loads.md R120). -/
  | ldDdNn (dd : RegPair) (nn : Word)
  /-- LD IX,nn (40_loads.md R135). -/
  | ldIxNn (nn : Word)
  /-- LD IY,nn (40_loads.md R136). -/
  | ldIyNn (nn : Word)
  /-- LD r,r' (40_loads.md R121). -/
  | ldRR (dst src : Reg)
  /-- LD r,n (40_loads.md R122). -/
  | ldRN (dst : Reg) (n : Byte)
  /-- LD r,(HL) (40_loads.md R123). -/
  | ldRHl (dst : Reg)
  /-- LD (HL),r (40_loads.md R124). -/
  | ldHlR (src : Reg)
  /-- LD (HL),n (40_loads.md R125). -/
  | ldHlN (n : Byte)
  /-- LD A,(BC) (40_loads.md R126). -/
  | ldABc
  /-- LD A,(DE) (40_loads.md R127). -/
  | ldADe
  /-- LD A,(nn) (40_loads.md R128). -/
  | ldANn (nn : Word)
  /-- LD (BC),A (40_loads.md R129). -/
  | ldBcA
  /-- LD (DE),A (40_loads.md R130). -/
  | ldDeA
  /-- LD (nn),A (40_loads.md R131). -/
  | ldNnA (nn : Word)
  /-- LD HL,(nn) (40_loads.md R132). -/
  | ldHlNn (nn : Word)
  /-- LD (nn),HL (40_loads.md R133). -/
  | ldNnHl (nn : Word)
  /-- LD SP,HL (40_loads.md R134). -/
  | ldSpHl
  /-- EX DE,HL (40_loads.md R140). -/
  | exDeHl
  /-- EX AF,AF' (40_loads.md R141). -/
  | exAfAf
  /-- EXX (40_loads.md R142). -/
  | exx
  /-- JR e (41_jumps.md R150). -/
  | jr (d : Byte)
  /-- JR cc,e (41_jumps.md R151); cc is one of NZ, Z, NC, C (WellFormed). -/
  | jrCc (cc : Cond) (d : Byte)
  /-- DJNZ e (41_jumps.md R152). -/
  | djnz (d : Byte)
  /-- JP nn (41_jumps.md R153). -/
  | jpNn (nn : Word)
  /-- JP cc,nn (41_jumps.md R154). -/
  | jpCcNn (cc : Cond) (nn : Word)
  /-- JP (HL) (41_jumps.md R155). -/
  | jpHl
  /-- ADD A,r (42_alu8.md R171). -/
  | addR (r : Reg)
  /-- ADD A,(HL) (42_alu8.md R171). -/
  | addHl
  /-- ADD A,n (42_alu8.md R171). -/
  | addN (n : Byte)
  /-- ADC A,r (42_alu8.md R172). -/
  | adcR (r : Reg)
  /-- ADC A,(HL) (42_alu8.md R172). -/
  | adcHl
  /-- ADC A,n (42_alu8.md R172). -/
  | adcN (n : Byte)
  /-- SUB r (42_alu8.md R173). -/
  | subR (r : Reg)
  /-- SUB (HL) (42_alu8.md R173). -/
  | subHl
  /-- SUB n (42_alu8.md R173). -/
  | subN (n : Byte)
  /-- SBC A,r (42_alu8.md R174). -/
  | sbcR (r : Reg)
  /-- SBC A,(HL) (42_alu8.md R174). -/
  | sbcHl
  /-- SBC A,n (42_alu8.md R174). -/
  | sbcN (n : Byte)
  /-- AND r (42_alu8.md R175). -/
  | andR (r : Reg)
  /-- AND (HL) (42_alu8.md R175). -/
  | andHl
  /-- AND n (42_alu8.md R175). -/
  | andN (n : Byte)
  /-- XOR r (42_alu8.md R176). -/
  | xorR (r : Reg)
  /-- XOR (HL) (42_alu8.md R176). -/
  | xorHl
  /-- XOR n (42_alu8.md R176). -/
  | xorN (n : Byte)
  /-- OR r (42_alu8.md R177). -/
  | orR (r : Reg)
  /-- OR (HL) (42_alu8.md R177). -/
  | orHl
  /-- OR n (42_alu8.md R177). -/
  | orN (n : Byte)
  /-- CP r (42_alu8.md R178). -/
  | cpR (r : Reg)
  /-- CP (HL) (42_alu8.md R178). -/
  | cpHl
  /-- CP n (42_alu8.md R178). -/
  | cpN (n : Byte)
  /-- INC r (42_alu8.md R181). -/
  | incR (r : Reg)
  /-- INC (HL) (42_alu8.md R181). -/
  | incHl
  /-- DEC r (42_alu8.md R182). -/
  | decR (r : Reg)
  /-- DEC (HL) (42_alu8.md R182). -/
  | decHl
  /-- DAA (42_alu8.md R185). -/
  | daa
  /-- CPL (42_alu8.md R186). -/
  | cpl
  /-- SCF (42_alu8.md R187). -/
  | scf
  /-- CCF (42_alu8.md R188). -/
  | ccf
  /-- RLCA (42_alu8.md R190). -/
  | rlca
  /-- RRCA (42_alu8.md R191). -/
  | rrca
  /-- RLA (42_alu8.md R192). -/
  | rla
  /-- RRA (42_alu8.md R193). -/
  | rra
  /-- ADD HL,ss (43_alu16.md R210). -/
  | addHlSs (ss : RegPair)
  /-- INC ss (43_alu16.md R211). -/
  | incSs (ss : RegPair)
  /-- DEC ss (43_alu16.md R212). -/
  | decSs (ss : RegPair)
  /-- LDIR (44_block.md R221). -/
  | ldir
  /-- LDDR (44_block.md R222). -/
  | lddr
  /-- PUSH qq (45_stack_calls.md R232). -/
  | pushQq (qq : StackPair)
  /-- POP qq (45_stack_calls.md R233). -/
  | popQq (qq : StackPair)
  /-- PUSH IX (45_stack_calls.md R234). -/
  | pushIx
  /-- PUSH IY (45_stack_calls.md R235). -/
  | pushIy
  /-- POP IX (45_stack_calls.md R236). -/
  | popIx
  /-- POP IY (45_stack_calls.md R237). -/
  | popIy
  /-- EX (SP),HL (45_stack_calls.md R238). -/
  | exSpHl
  /-- CALL nn (45_stack_calls.md R240). -/
  | callNn (nn : Word)
  /-- CALL cc,nn (45_stack_calls.md R241). -/
  | callCcNn (cc : Cond) (nn : Word)
  /-- RET (45_stack_calls.md R242). -/
  | ret
  /-- RET cc (45_stack_calls.md R243). -/
  | retCc (cc : Cond)
  /-- RETI (45_stack_calls.md R244). -/
  | reti
  /-- RST p (45_stack_calls.md R245); p is 8*y (WellFormed). -/
  | rst (p : Byte)
  /-- RETN (45_stack_calls.md R246). -/
  | retn
  /-- RLC r (46_bit_rotate.md R261). -/
  | rlcR (r : Reg)
  /-- RLC (HL) (46_bit_rotate.md R261). -/
  | rlcHl
  /-- RRC r (46_bit_rotate.md R262). -/
  | rrcR (r : Reg)
  /-- RRC (HL) (46_bit_rotate.md R262). -/
  | rrcHl
  /-- RL r (46_bit_rotate.md R263). -/
  | rlR (r : Reg)
  /-- RL (HL) (46_bit_rotate.md R263). -/
  | rlHl
  /-- RR r (46_bit_rotate.md R264). -/
  | rrR (r : Reg)
  /-- RR (HL) (46_bit_rotate.md R264). -/
  | rrHl
  /-- SLA r (46_bit_rotate.md R265). -/
  | slaR (r : Reg)
  /-- SLA (HL) (46_bit_rotate.md R265). -/
  | slaHl
  /-- SRA r (46_bit_rotate.md R266). -/
  | sraR (r : Reg)
  /-- SRA (HL) (46_bit_rotate.md R266). -/
  | sraHl
  /-- SRL r (46_bit_rotate.md R267). -/
  | srlR (r : Reg)
  /-- SRL (HL) (46_bit_rotate.md R267). -/
  | srlHl
  /-- BIT b,r (46_bit_rotate.md R270). -/
  | bitR (b : BitVec 3) (r : Reg)
  /-- BIT b,(HL) (46_bit_rotate.md R270). -/
  | bitHl (b : BitVec 3)
  /-- RES b,r (46_bit_rotate.md R271). -/
  | resR (b : BitVec 3) (r : Reg)
  /-- RES b,(HL) (46_bit_rotate.md R271). -/
  | resHl (b : BitVec 3)
  /-- SET b,r (46_bit_rotate.md R272). -/
  | setR (b : BitVec 3) (r : Reg)
  /-- SET b,(HL) (46_bit_rotate.md R272). -/
  | setHl (b : BitVec 3)
  /-- IN A,(n) (47_io_system.md R290). -/
  | inAN (n : Byte)
  /-- OUT (n),A (47_io_system.md R291). -/
  | outNA (n : Byte)
  /-- NOP (47_io_system.md R295). -/
  | nop
  /-- HALT (47_io_system.md R296). -/
  | halt
  /-- DI (47_io_system.md R297). -/
  | di
  /-- EI (47_io_system.md R298). -/
  | ei
  /-- IM 0 (47_io_system.md R299). -/
  | im0
  /-- IM 1 (47_io_system.md R299). -/
  | im1
  /-- IM 2 (47_io_system.md R299). -/
  | im2
  /-- LD I,A (47_io_system.md R300). -/
  | ldIA
  /-- LD R,A (47_io_system.md R301). -/
  | ldRA
  /-- LD A,I (47_io_system.md R302). -/
  | ldAI
  /-- LD A,R (47_io_system.md R303). -/
  | ldAR
  deriving DecidableEq, Repr

end Sys2Proof
end

