-- ==== Sys2Proof/WellFormed.lean ====
section
/-! DEFINITION. Which instructions have an encoding: the two operand classes that are narrower than the
type of their field. Every other field admits exactly its type's values. -/

namespace Sys2Proof

/-- "`JR cc,e` uses only `cc[0..3]`" (30_encoding.md R96): NZ, Z, NC, C. -/
def Cond.inJr : Cond → Bool
  | .nz | .z | .nc | .c => true
  | .po | .pe | .p | .m => false

/-- `RST p`: "`p = 8*y`, one of `00H, 08H, 10H, 18H, 20H, 28H, 30H, 38H`" (45_stack_calls.md R245). -/
def isRstTarget (p : Byte) : Bool := p &&& 0xC7#8 == 0#8

/-- An instruction that the encoding admits. -/
def Instr.wf : Instr → Bool
  | .jrCc cc _ => cc.inJr
  | .rst p => isRstTarget p
  | _ => true

/-- `Instr.wf` as a proposition. -/
abbrev WellFormed (i : Instr) : Prop := i.wf = true

end Sys2Proof
end

