-- ==== Sys2Proof/Decode.lean ====
section
/-! DEFINITION. The decoder (30_encoding.md R90 to R102), total on any bytes and rejecting by name, and
the encoder written from the same tables.

The opcode map is R97's: an opcode byte is read as the fields `x = op[7:6]`, `y = op[5:3]`, `z = op[2:0]`,
`p = op[5:4]`, `q = op[3]` (R94), and the fields select a row. -/

namespace Sys2Proof

/-- Why bytes are no instruction. -/
inductive DecodeError where
  /-- No row matches the one or two opcode bytes `key` (R101): the step raises UnrecognisedOpcode. -/
  | unrecognised (key : List Byte)
  /-- The bytes end inside an instruction that begins with `key`. A fetch never meets this: it offers
  four bytes, the longest length (R90). -/
  | truncated (key : List Byte)
  deriving DecidableEq, Repr

/-- The opcode bytes the error is about. -/
def DecodeError.key : DecodeError → List Byte
  | .unrecognised key => key
  | .truncated key => key

/-- What follows the opcode bytes of a row (R90): nothing, one byte, or a little-endian word. -/
inductive Form where
  /-- Formats OP, CB_OP, ED_OP, XY_OP. -/
  | done (i : Instr)
  /-- Formats OP_N and OP_D. -/
  | takesByte (mk : Byte → Instr)
  /-- Formats OP_NN and XY_OP_NN. -/
  | takesWord (mk : Word → Instr)

/-- Fetch the immediate bytes of a row, low byte first (R92, R95). -/
def Form.finish (key : List Byte) : Form → List Byte → Except DecodeError (Instr × List Byte)
  | .done i, rest => .ok (i, rest)
  | .takesByte mk, n :: rest => .ok (mk n, rest)
  | .takesWord mk, lo :: hi :: rest => .ok (mk (mkWord hi lo), rest)
  | _, _ => .error (.truncated key)

/-! ## Fields and operand tables (R94, R96) -/

def fieldX (op : Byte) : Nat := op.toNat / 64
def fieldY (op : Byte) : Nat := op.toNat / 8 % 8
def fieldZ (op : Byte) : Nat := op.toNat % 8
def fieldP (op : Byte) : Nat := op.toNat / 16 % 4
def fieldQ (op : Byte) : Nat := op.toNat / 8 % 2

/-- `r[i]`; `none` is index 6, the operand `(HL)`. -/
def regOf : Nat → Option Reg
  | 0 => some .b | 1 => some .c | 2 => some .d | 3 => some .e
  | 4 => some .h | 5 => some .l | 6 => none | _ => some .a

/-- The index of a register in `r[]`. -/
def Reg.index : Reg → Nat
  | .b => 0 | .c => 1 | .d => 2 | .e => 3 | .h => 4 | .l => 5 | .a => 7

/-- `rp[p]`. -/
def regPairOf : Nat → RegPair
  | 0 => .bc | 1 => .de | 2 => .hl | _ => .sp

/-- The index of a pair in `rp[]`. -/
def RegPair.index : RegPair → Nat
  | .bc => 0 | .de => 1 | .hl => 2 | .sp => 3

/-- `rp2[p]`. -/
def stackPairOf : Nat → StackPair
  | 0 => .bc | 1 => .de | 2 => .hl | _ => .af

/-- The index of a pair in `rp2[]`. -/
def StackPair.index : StackPair → Nat
  | .bc => 0 | .de => 1 | .hl => 2 | .af => 3

/-- `cc[y]`. -/
def condOf : Nat → Cond
  | 0 => .nz | 1 => .z | 2 => .nc | 3 => .c | 4 => .po | 5 => .pe | 6 => .p | _ => .m

/-- The index of a condition in `cc[]`. -/
def Cond.index : Cond → Nat
  | .nz => 0 | .z => 1 | .nc => 2 | .c => 3 | .po => 4 | .pe => 5 | .p => 6 | .m => 7

/-- `alu[y] r[z]` (42_alu8.md R170). -/
def aluForm : Nat → Option Reg → Instr
  | 0, some r => .addR r | 0, none => .addHl
  | 1, some r => .adcR r | 1, none => .adcHl
  | 2, some r => .subR r | 2, none => .subHl
  | 3, some r => .sbcR r | 3, none => .sbcHl
  | 4, some r => .andR r | 4, none => .andHl
  | 5, some r => .xorR r | 5, none => .xorHl
  | 6, some r => .orR r | 6, none => .orHl
  | _, some r => .cpR r | _, none => .cpHl

/-- `alu[y] n` (42_alu8.md R170). -/
def aluImmForm : Nat → Byte → Instr
  | 0 => .addN | 1 => .adcN | 2 => .subN | 3 => .sbcN
  | 4 => .andN | 5 => .xorN | 6 => .orN | _ => .cpN

/-- `rot[y] r[z]`; `y = 6` is unrecognised (R98). -/
def rotForm : Nat → Option Reg → Option Instr
  | 0, some r => some (.rlcR r) | 0, none => some .rlcHl
  | 1, some r => some (.rrcR r) | 1, none => some .rrcHl
  | 2, some r => some (.rlR r) | 2, none => some .rlHl
  | 3, some r => some (.rrR r) | 3, none => some .rrHl
  | 4, some r => some (.slaR r) | 4, none => some .slaHl
  | 5, some r => some (.sraR r) | 5, none => some .sraHl
  | 6, _ => none
  | _, some r => some (.srlR r) | _, none => some .srlHl

/-! ## The opcode map -/

/-- Quadrant x = 0 of the main page (R97). -/
def mainX0 (y z p q : Nat) : Form :=
  match z with
  | 0 =>
    match y with
    | 0 => .done .nop
    | 1 => .done .exAfAf
    | 2 => .takesByte .djnz
    | 3 => .takesByte .jr
    | _ => .takesByte (.jrCc (condOf (y - 4)))
  | 1 => if q = 0 then .takesWord (.ldDdNn (regPairOf p)) else .done (.addHlSs (regPairOf p))
  | 2 =>
    match y with
    | 0 => .done .ldBcA
    | 1 => .done .ldABc
    | 2 => .done .ldDeA
    | 3 => .done .ldADe
    | 4 => .takesWord .ldNnHl
    | 5 => .takesWord .ldHlNn
    | 6 => .takesWord .ldNnA
    | _ => .takesWord .ldANn
  | 3 => .done (if q = 0 then .incSs (regPairOf p) else .decSs (regPairOf p))
  | 4 => .done (match regOf y with | some r => .incR r | none => .incHl)
  | 5 => .done (match regOf y with | some r => .decR r | none => .decHl)
  | 6 => .takesByte (match regOf y with | some r => .ldRN r | none => .ldHlN)
  | _ =>
    match y with
    | 0 => .done .rlca
    | 1 => .done .rrca
    | 2 => .done .rla
    | 3 => .done .rra
    | 4 => .done .daa
    | 5 => .done .cpl
    | 6 => .done .scf
    | _ => .done .ccf

/-- Quadrant x = 1: the 8-bit moves, with HALT in the slot of `LD (HL),(HL)` (R97). -/
def mainX1 (y z : Nat) : Form :=
  match regOf y, regOf z with
  | some dst, some src => .done (.ldRR dst src)
  | some dst, none => .done (.ldRHl dst)
  | none, some src => .done (.ldHlR src)
  | none, none => .done .halt

/-- Quadrant x = 3 (R97); `none` at the four prefixes, which are no instruction of this page. -/
def mainX3 (y z p q : Nat) : Option Form :=
  match z with
  | 0 => some (.done (.retCc (condOf y)))
  | 1 =>
    if q = 0 then some (.done (.popQq (stackPairOf p)))
    else match p with
      | 0 => some (.done .ret)
      | 1 => some (.done .exx)
      | 2 => some (.done .jpHl)
      | _ => some (.done .ldSpHl)
  | 2 => some (.takesWord (.jpCcNn (condOf y)))
  | 3 =>
    match y with
    | 0 => some (.takesWord .jpNn)
    | 1 => none
    | 2 => some (.takesByte .outNA)
    | 3 => some (.takesByte .inAN)
    | 4 => some (.done .exSpHl)
    | 5 => some (.done .exDeHl)
    | 6 => some (.done .di)
    | _ => some (.done .ei)
  | 4 => some (.takesWord (.callCcNn (condOf y)))
  | 5 =>
    if q = 0 then some (.done (.pushQq (stackPairOf p)))
    else match p with
      | 0 => some (.takesWord .callNn)
      | _ => none
  | 6 => some (.takesByte (aluImmForm y))
  | _ => some (.done (.rst (BitVec.ofNat 8 (8 * y))))

/-- The main page: the row of an opcode byte that is no prefix (R97). -/
def mainForm (op : Byte) : Option Form :=
  match fieldX op with
  | 0 => some (mainX0 (fieldY op) (fieldZ op) (fieldP op) (fieldQ op))
  | 1 => some (mainX1 (fieldY op) (fieldZ op))
  | 2 => some (.done (aluForm (fieldY op) (regOf (fieldZ op))))
  | _ => mainX3 (fieldY op) (fieldZ op) (fieldP op) (fieldQ op)

/-- The CB page (R98). -/
def cbForm (op : Byte) : Option Form :=
  let b := BitVec.ofNat 3 (fieldY op)
  match fieldX op with
  | 0 => (rotForm (fieldY op) (regOf (fieldZ op))).map .done
  | 1 => some (.done (match regOf (fieldZ op) with | some r => .bitR b r | none => .bitHl b))
  | 2 => some (.done (match regOf (fieldZ op) with | some r => .resR b r | none => .resHl b))
  | _ => some (.done (match regOf (fieldZ op) with | some r => .setR b r | none => .setHl b))

/-- The ED page: 11 opcodes (R99). -/
def edForm (op : Byte) : Option Form :=
  match op.toNat with
  | 0x45 => some (.done .retn)
  | 0x46 => some (.done .im0)
  | 0x47 => some (.done .ldIA)
  | 0x4D => some (.done .reti)
  | 0x4F => some (.done .ldRA)
  | 0x56 => some (.done .im1)
  | 0x57 => some (.done .ldAI)
  | 0x5E => some (.done .im2)
  | 0x5F => some (.done .ldAR)
  | 0xB0 => some (.done .ldir)
  | 0xB8 => some (.done .lddr)
  | _ => none

/-- The DD page: `IX` (R100). -/
def ddForm (op : Byte) : Option Form :=
  match op.toNat with
  | 0x21 => some (.takesWord .ldIxNn)
  | 0xE1 => some (.done .popIx)
  | 0xE5 => some (.done .pushIx)
  | _ => none

/-- The FD page: `IY` (R100). -/
def fdForm (op : Byte) : Option Form :=
  match op.toNat with
  | 0x21 => some (.takesWord .ldIyNn)
  | 0xE1 => some (.done .popIy)
  | 0xE5 => some (.done .pushIy)
  | _ => none

/-- "if byte 0 is a prefix (`0xCB`, `0xED`, `0xDD`, `0xFD`) the opcode is byte 1" (R102): the page a
prefix byte selects. -/
def pageOf (op : Byte) : Option (Byte → Option Form) :=
  match op.toNat with
  | 0xCB => some cbForm
  | 0xED => some edForm
  | 0xDD => some ddForm
  | 0xFD => some fdForm
  | _ => none

/-- Decode the first instruction of a list of bytes: the instruction and the bytes after it, or the
reason there is none. Only the one or two opcode bytes decide whether it is admitted (R101). -/
def decode : List Byte → Except DecodeError (Instr × List Byte)
  | [] => .error (.truncated [])
  | b0 :: rest =>
    match pageOf b0 with
    | none =>
      match mainForm b0 with
      | none => .error (.unrecognised [b0])
      | some form => form.finish [b0] rest
    | some page =>
      match rest with
      | [] => .error (.truncated [b0])
      | b1 :: rest' =>
        match page b1 with
        | none => .error (.unrecognised [b0, b1])
        | some form => form.finish [b0, b1] rest'

/-! ## The encoder -/

/-- The opcode byte with fields `x`, `y`, `z` (R94). -/
def opcode (x y z : Nat) : Byte := BitVec.ofNat 8 (64 * x + 8 * y + z)

/-- The opcode byte with fields `x`, `p`, `q`, `z` (R94). -/
def opcodeP (x p q z : Nat) : Byte := BitVec.ofNat 8 (64 * x + 16 * p + 8 * q + z)

/-- The bytes of an instruction, in ascending address order (R90, R97 to R100). -/
def encode : Instr → List Byte
  | .ldDdNn dd nn => [opcodeP 0 dd.index 0 1, loByte nn, hiByte nn]
  | .ldIxNn nn => [0xDD, 0x21, loByte nn, hiByte nn]
  | .ldIyNn nn => [0xFD, 0x21, loByte nn, hiByte nn]
  | .ldRR dst src => [opcode 1 dst.index src.index]
  | .ldRN dst n => [opcode 0 dst.index 6, n]
  | .ldRHl dst => [opcode 1 dst.index 6]
  | .ldHlR src => [opcode 1 6 src.index]
  | .ldHlN n => [0x36, n]
  | .ldABc => [0x0A]
  | .ldADe => [0x1A]
  | .ldANn nn => [0x3A, loByte nn, hiByte nn]
  | .ldBcA => [0x02]
  | .ldDeA => [0x12]
  | .ldNnA nn => [0x32, loByte nn, hiByte nn]
  | .ldHlNn nn => [0x2A, loByte nn, hiByte nn]
  | .ldNnHl nn => [0x22, loByte nn, hiByte nn]
  | .ldSpHl => [0xF9]
  | .exDeHl => [0xEB]
  | .exAfAf => [0x08]
  | .exx => [0xD9]
  | .jr d => [0x18, d]
  | .jrCc cc d => [opcode 0 (4 + cc.index) 0, d]
  | .djnz d => [0x10, d]
  | .jpNn nn => [0xC3, loByte nn, hiByte nn]
  | .jpCcNn cc nn => [opcode 3 cc.index 2, loByte nn, hiByte nn]
  | .jpHl => [0xE9]
  | .addR r => [opcode 2 0 r.index]
  | .addHl => [0x86]
  | .addN n => [0xC6, n]
  | .adcR r => [opcode 2 1 r.index]
  | .adcHl => [0x8E]
  | .adcN n => [0xCE, n]
  | .subR r => [opcode 2 2 r.index]
  | .subHl => [0x96]
  | .subN n => [0xD6, n]
  | .sbcR r => [opcode 2 3 r.index]
  | .sbcHl => [0x9E]
  | .sbcN n => [0xDE, n]
  | .andR r => [opcode 2 4 r.index]
  | .andHl => [0xA6]
  | .andN n => [0xE6, n]
  | .xorR r => [opcode 2 5 r.index]
  | .xorHl => [0xAE]
  | .xorN n => [0xEE, n]
  | .orR r => [opcode 2 6 r.index]
  | .orHl => [0xB6]
  | .orN n => [0xF6, n]
  | .cpR r => [opcode 2 7 r.index]
  | .cpHl => [0xBE]
  | .cpN n => [0xFE, n]
  | .incR r => [opcode 0 r.index 4]
  | .incHl => [0x34]
  | .decR r => [opcode 0 r.index 5]
  | .decHl => [0x35]
  | .daa => [0x27]
  | .cpl => [0x2F]
  | .scf => [0x37]
  | .ccf => [0x3F]
  | .rlca => [0x07]
  | .rrca => [0x0F]
  | .rla => [0x17]
  | .rra => [0x1F]
  | .addHlSs ss => [opcodeP 0 ss.index 1 1]
  | .incSs ss => [opcodeP 0 ss.index 0 3]
  | .decSs ss => [opcodeP 0 ss.index 1 3]
  | .ldir => [0xED, 0xB0]
  | .lddr => [0xED, 0xB8]
  | .pushQq qq => [opcodeP 3 qq.index 0 5]
  | .popQq qq => [opcodeP 3 qq.index 0 1]
  | .pushIx => [0xDD, 0xE5]
  | .pushIy => [0xFD, 0xE5]
  | .popIx => [0xDD, 0xE1]
  | .popIy => [0xFD, 0xE1]
  | .exSpHl => [0xE3]
  | .callNn nn => [0xCD, loByte nn, hiByte nn]
  | .callCcNn cc nn => [opcode 3 cc.index 4, loByte nn, hiByte nn]
  | .ret => [0xC9]
  | .retCc cc => [opcode 3 cc.index 0]
  | .reti => [0xED, 0x4D]
  | .rst p => [opcode 3 (p.toNat / 8) 7]
  | .retn => [0xED, 0x45]
  | .rlcR r => [0xCB, opcode 0 0 r.index]
  | .rlcHl => [0xCB, 0x06]
  | .rrcR r => [0xCB, opcode 0 1 r.index]
  | .rrcHl => [0xCB, 0x0E]
  | .rlR r => [0xCB, opcode 0 2 r.index]
  | .rlHl => [0xCB, 0x16]
  | .rrR r => [0xCB, opcode 0 3 r.index]
  | .rrHl => [0xCB, 0x1E]
  | .slaR r => [0xCB, opcode 0 4 r.index]
  | .slaHl => [0xCB, 0x26]
  | .sraR r => [0xCB, opcode 0 5 r.index]
  | .sraHl => [0xCB, 0x2E]
  | .srlR r => [0xCB, opcode 0 7 r.index]
  | .srlHl => [0xCB, 0x3E]
  | .bitR b r => [0xCB, opcode 1 b.toNat r.index]
  | .bitHl b => [0xCB, opcode 1 b.toNat 6]
  | .resR b r => [0xCB, opcode 2 b.toNat r.index]
  | .resHl b => [0xCB, opcode 2 b.toNat 6]
  | .setR b r => [0xCB, opcode 3 b.toNat r.index]
  | .setHl b => [0xCB, opcode 3 b.toNat 6]
  | .inAN n => [0xDB, n]
  | .outNA n => [0xD3, n]
  | .nop => [0x00]
  | .halt => [0x76]
  | .di => [0xF3]
  | .ei => [0xFB]
  | .im0 => [0xED, 0x46]
  | .im1 => [0xED, 0x56]
  | .im2 => [0xED, 0x5E]
  | .ldIA => [0xED, 0x47]
  | .ldRA => [0xED, 0x4F]
  | .ldAI => [0xED, 0x57]
  | .ldAR => [0xED, 0x5F]

/-- The length of an instruction in bytes (R90). -/
def Instr.length (i : Instr) : Nat := (encode i).length

/-- How many of an instruction's bytes are fetched with `FetchOp()`: the opcode byte, and the prefix
byte where there is one (R92). -/
def Instr.opcodeBytes : Instr → Nat
  | .ldIxNn _ | .ldIyNn _ | .ldir | .lddr | .pushIx | .pushIy | .popIx | .popIy | .reti | .retn
  | .rlcR _ | .rlcHl | .rrcR _ | .rrcHl | .rlR _ | .rlHl | .rrR _ | .rrHl | .slaR _ | .slaHl
  | .sraR _ | .sraHl | .srlR _ | .srlHl | .bitR _ _ | .bitHl _ | .resR _ _ | .resHl _ | .setR _ _
  | .setHl _ | .im0 | .im1 | .im2 | .ldIA | .ldRA | .ldAI | .ldAR => 2
  | _ => 1

/-! ## The opcode table's words -/

/-- The `k` low bytes of `w`, the highest first. -/
def bytesHighFirst : Nat → Nat → List Byte
  | 0, _ => []
  | k + 1, w => BitVec.ofNat 8 (w / 2 ^ (8 * k)) :: bytesHighFirst k w

/-- Do these bytes hold one whole instruction and nothing after it? -/
def isWhole (bytes : List Byte) : Bool :=
  match decode bytes with
  | .ok (_, rest) => rest.isEmpty
  | .error _ => false

/-- The bytes, in address order, of an instruction whose `nbits` bits are the number `w`
(notes/assumptions/5.md). spec/opcode_table.json reads a row's bytes as one number whose TOP byte is byte 0 (`DJNZ e`
has its opcode at bits 15..8): that order is taken, unless in that order the number is an instruction with
bytes left over, so that it is not the row's, and in the other order it is one whole instruction. -/
def tableWordBytes (nbits w : Nat) : List Byte :=
  let high := bytesHighFirst (nbits / 8) w
  let low := high.reverse
  match decode high with
  | .ok (_, _ :: _) => if isWhole low then low else high
  | _ => high

/-- The instruction the decoder reads from an opcode-table word. The bytes above `nbits` are zeros. -/
def decodeTableWord (nbits w : Nat) : Option Instr :=
  match decode (tableWordBytes nbits w ++ [0, 0, 0]) with
  | .ok (i, _) => some i
  | .error _ => none

end Sys2Proof
end

