-- ==== Sys2Proof/Config.lean ====
section
/-! DEFINITION. The parameters of the machine (00_scope.md R6) and its free values.

The spec: "a model takes the parameter as an argument". They are one record, `Config`, which the state
carries and no action changes; the default values stand in Machine/Defaults.lean. The numbers the source
itself fixes (MEM_SIZE, ROM_SIZE, KB_ROWS, BYTES_PER_LINE, FLASH_PERIOD) are constants there. -/

namespace Sys2Proof

/-- ROM "protection mode" (20_memory.md R63): in both, a write below ROM_SIZE is dropped and the CPU goes
on; `disallow` also surfaces a diagnostic to the host. -/
inductive RomProtect where
  | ignore
  | disallow
  deriving DecidableEq, Repr

/-- RAM_RESET_MODE (10_state.md R44): `noise` leaves RAM and the registers without a reset value
arbitrary, `zero` is the "deterministic test mode". -/
inductive RamResetMode where
  | noise
  | zero
  deriving DecidableEq, Repr

/-- R_POLICY (10_state.md R25): `m1` counts opcode fetches in R[6:0]; `any` makes R[6:0] arbitrary at
every read. -/
inductive RPolicy where
  | m1
  | any
  deriving DecidableEq, Repr

/-- One entry of AUTOTYPE_SCRIPT (60_exceptions.md R357): at the end of frame `frame`, the key at
(`row`, `bit`) is pressed or released. -/
structure KeyEvent where
  frame : Nat
  row : Fin 8
  bit : Fin 8
  press : Bool
  deriving DecidableEq, Repr

/-- `COST`, the "T-state cost of each instruction form" (00_scope.md R6; 70_reset_and_hazards.md R425): a field per row of
the opcode table, named as its constructor, and a second one, `NotTaken` or `Last`, for a form with two outcomes. -/
structure CostTable where
  -- 40_loads.md
  (ldDdNn ldIxNn ldIyNn ldRR ldRN ldRHl ldHlR ldHlN ldABc ldADe ldANn ldBcA ldDeA ldNnA ldHlNn : Nat)
  (ldNnHl ldSpHl exDeHl exAfAf exx : Nat)
  -- 41_jumps.md
  (jr jrCc jrCcNotTaken djnz djnzNotTaken jpNn jpCcNn jpHl : Nat)
  -- 42_alu8.md
  (addR addHl addN adcR adcHl adcN subR subHl subN sbcR sbcHl sbcN andR andHl andN xorR xorHl xorN : Nat)
  (orR orHl orN cpR cpHl cpN incR incHl decR decHl daa cpl scf ccf rlca rrca rla rra : Nat)
  -- 43_alu16.md
  (addHlSs incSs decSs : Nat)
  -- 44_block.md
  (ldir ldirLast lddr lddrLast : Nat)
  -- 45_stack_calls.md
  (pushQq popQq pushIx pushIy popIx popIy exSpHl callNn callCcNn callCcNnNotTaken ret retCc : Nat)
  (retCcNotTaken reti rst retn : Nat)
  -- 46_bit_rotate.md
  (rlcR rlcHl rrcR rrcHl rlR rlHl rrR rrHl slaR slaHl sraR sraHl srlR srlHl bitR bitHl resR resHl : Nat)
  (setR setHl : Nat)
  -- 47_io_system.md
  (inAN outNA nop halt di ei im0 im1 im2 ldIA ldRA ldAI ldAR : Nat)
  deriving DecidableEq, Repr

/-- A presentation colour (60_exceptions.md R348). -/
structure Rgb where
  red : Byte
  green : Byte
  blue : Byte
  deriving DecidableEq, Repr

/-- The parameters of 00_scope.md R6 whose values the source does not state. -/
structure Config where
  /-- IM1_VECTOR, "the fixed interrupt-mode-1 vector" (D3). -/
  im1Vector : Word
  /-- LD_BYTES_ENTRY, "the fixed ROM-routine entry address for the byte-load routine" (D4). -/
  ldBytesEntry : Word
  /-- BITMAP_BASE (D5). -/
  bitmapBase : Word
  /-- ATTR_BASE (D5). -/
  attrBase : Word
  /-- DISPLAY_LINES (D5). -/
  displayLines : Nat
  /-- LINES_PER_FRAME (D6); also FRAME_H (D7). -/
  linesPerFrame : Nat
  /-- FIRST_DISPLAY_LINE (D6). -/
  firstDisplayLine : Nat
  /-- TSTATES_PER_LINE (D6). -/
  tstatesPerLine : Nat
  /-- BORDER_LEFT (D7). -/
  borderLeft : Nat
  /-- BORDER_RIGHT (D7). -/
  borderRight : Nat
  /-- COST (D9). -/
  cost : CostTable
  /-- INT_COST (D9). -/
  intCost : Nat
  /-- HALT_COST (D9). -/
  haltCost : Nat
  /-- TRAP_COST (D9). -/
  trapCost : Nat
  /-- ROM_PROTECT (D10). -/
  romProtect : RomProtect
  /-- RAM_RESET_MODE and, with it, RESET_REGS (D11). -/
  ramResetMode : RamResetMode
  /-- R_POLICY (D12). -/
  rPolicy : RPolicy
  /-- PALETTE (D8): the colour of each index 0..15. -/
  palette : Vector Rgb 16
  /-- KEYMAP (D13): the keys of each matrix row, bit 0 first. -/
  keymap : Vector (List String) 8
  /-- AUTOTYPE_SCRIPT (D14). -/
  autotypeScript : List KeyEvent
  /-- AUTOTYPE_FRAMES (D14). -/
  autotypeFrames : Nat
  deriving DecidableEq, Repr

/-- A free value (notes/assumptions/6.md, 7.md): the byte at index `slot` of the `draw`-th set of arbitrary values.
It has no body: nothing can be proved of what it is. It stands for the noise of a reset in mode `noise`
(70_reset_and_hazards.md R400) and for R[6:0] under R_POLICY = any (10_state.md R25). -/
opaque Config.freeByte (draw slot : Nat) : Byte

end Sys2Proof
end

