-- ==== Sys2Proof/Machine/Defaults.lean ====
section
/-! DEFINITION. The parameter values (00_scope.md R6). Those the source states are constants; those it
leaves open are the spec's defaults, a field of `Config.default` each (notes/assumptions/8.md: PRESUMED, the spec's
general knowledge of the Z80 and the ZX Spectrum 48K). -/

namespace Sys2Proof

/-- MEM_SIZE: "byte array of 65536 entries" (10_state.md R38). -/
def memSize : Nat := 65536

/-- ROM_SIZE: "A boot ROM image occupies addresses [0,16384)" (20_memory.md R61). -/
def romSize : Nat := 16384

/-- FLASH_PERIOD: "every 16 frames" (10_state.md R40). -/
def flashPeriod : Nat := 16

/-- BYTES_PER_LINE: "32 bytes of bitmap data" (60_exceptions.md R345). -/
def bytesPerLine : Nat := 32

/-- The `COST` table of 70_reset_and_hazards.md R425 (notes/assumptions/9.md). -/
def CostTable.default : CostTable :=
  { -- 40_loads.md
    ldDdNn := 10, ldIxNn := 14, ldIyNn := 14, ldRR := 4, ldRN := 7, ldRHl := 7, ldHlR := 7, ldHlN := 10
    ldABc := 7, ldADe := 7, ldANn := 13, ldBcA := 7, ldDeA := 7, ldNnA := 13, ldHlNn := 16, ldNnHl := 16
    ldSpHl := 6, exDeHl := 4, exAfAf := 4, exx := 4
    -- 41_jumps.md
    jr := 12, jrCc := 12, jrCcNotTaken := 7, djnz := 13, djnzNotTaken := 8, jpNn := 10, jpCcNn := 10
    jpHl := 4
    -- 42_alu8.md
    addR := 4, addHl := 7, addN := 7, adcR := 4, adcHl := 7, adcN := 7, subR := 4, subHl := 7, subN := 7
    sbcR := 4, sbcHl := 7, sbcN := 7, andR := 4, andHl := 7, andN := 7, xorR := 4, xorHl := 7, xorN := 7
    orR := 4, orHl := 7, orN := 7, cpR := 4, cpHl := 7, cpN := 7, incR := 4, incHl := 11, decR := 4
    decHl := 11, daa := 4, cpl := 4, scf := 4, ccf := 4, rlca := 4, rrca := 4, rla := 4, rra := 4
    -- 43_alu16.md
    addHlSs := 11, incSs := 6, decSs := 6
    -- 44_block.md
    ldir := 21, ldirLast := 16, lddr := 21, lddrLast := 16
    -- 45_stack_calls.md
    pushQq := 11, popQq := 10, pushIx := 15, pushIy := 15, popIx := 14, popIy := 14, exSpHl := 19
    callNn := 17, callCcNn := 17, callCcNnNotTaken := 10, ret := 10, retCc := 11, retCcNotTaken := 5
    reti := 14, rst := 11, retn := 14
    -- 46_bit_rotate.md
    rlcR := 8, rlcHl := 15, rrcR := 8, rrcHl := 15, rlR := 8, rlHl := 15, rrR := 8, rrHl := 15, slaR := 8
    slaHl := 15, sraR := 8, sraHl := 15, srlR := 8, srlHl := 15, bitR := 8, bitHl := 12, resR := 8
    resHl := 15, setR := 8, setHl := 15
    -- 47_io_system.md
    inAN := 11, outNA := 11, nop := 4, halt := 4, di := 4, ei := 4, im0 := 8, im1 := 8, im2 := 8, ldIA := 9
    ldRA := 9, ldAI := 9, ldAR := 9 }

/-- Every cost of the table. -/
def CostTable.values (t : CostTable) : List Nat :=
  [t.ldDdNn, t.ldIxNn, t.ldIyNn, t.ldRR, t.ldRN, t.ldRHl, t.ldHlR, t.ldHlN, t.ldABc, t.ldADe, t.ldANn,
    t.ldBcA, t.ldDeA, t.ldNnA, t.ldHlNn, t.ldNnHl, t.ldSpHl, t.exDeHl, t.exAfAf, t.exx,
    t.jr, t.jrCc, t.jrCcNotTaken, t.djnz, t.djnzNotTaken, t.jpNn, t.jpCcNn, t.jpHl,
    t.addR, t.addHl, t.addN, t.adcR, t.adcHl, t.adcN, t.subR, t.subHl, t.subN, t.sbcR, t.sbcHl, t.sbcN, t.andR,
    t.andHl, t.andN, t.xorR, t.xorHl, t.xorN, t.orR, t.orHl, t.orN, t.cpR, t.cpHl, t.cpN, t.incR, t.incHl,
    t.decR, t.decHl, t.daa, t.cpl, t.scf, t.ccf, t.rlca, t.rrca, t.rla, t.rra,
    t.addHlSs, t.incSs, t.decSs,
    t.ldir, t.ldirLast, t.lddr, t.lddrLast,
    t.pushQq, t.popQq, t.pushIx, t.pushIy, t.popIx, t.popIy, t.exSpHl, t.callNn, t.callCcNn,
    t.callCcNnNotTaken, t.ret, t.retCc, t.retCcNotTaken, t.reti, t.rst, t.retn,
    t.rlcR, t.rlcHl, t.rrcR, t.rrcHl, t.rlR, t.rlHl, t.rrR, t.rrHl, t.slaR, t.slaHl, t.sraR, t.sraHl, t.srlR,
    t.srlHl, t.bitR, t.bitHl, t.resR, t.resHl, t.setR, t.setHl,
    t.inAN, t.outNA, t.nop, t.halt, t.di, t.ei, t.im0, t.im1, t.im2, t.ldIA, t.ldRA, t.ldAI, t.ldAR]

/-- The default `PALETTE` (60_exceptions.md R348; notes/assumptions/18.md): index bits are bright, green, red, blue. -/
def defaultPalette : Vector Rgb 16 :=
  #v[⟨0x00, 0x00, 0x00⟩, ⟨0x00, 0x00, 0xD7⟩, ⟨0xD7, 0x00, 0x00⟩, ⟨0xD7, 0x00, 0xD7⟩,
    ⟨0x00, 0xD7, 0x00⟩, ⟨0x00, 0xD7, 0xD7⟩, ⟨0xD7, 0xD7, 0x00⟩, ⟨0xD7, 0xD7, 0xD7⟩,
    ⟨0x00, 0x00, 0x00⟩, ⟨0x00, 0x00, 0xFF⟩, ⟨0xFF, 0x00, 0x00⟩, ⟨0xFF, 0x00, 0xFF⟩,
    ⟨0x00, 0xFF, 0x00⟩, ⟨0x00, 0xFF, 0xFF⟩, ⟨0xFF, 0xFF, 0x00⟩, ⟨0xFF, 0xFF, 0xFF⟩]

/-- The default `KEYMAP` (20_memory.md R73; notes/assumptions/18.md), by row, bit 0 first. -/
def defaultKeymap : Vector (List String) 8 :=
  #v[["CAPS SHIFT", "Z", "X", "C", "V"],
    ["A", "S", "D", "F", "G"],
    ["Q", "W", "E", "R", "T"],
    ["1", "2", "3", "4", "5"],
    ["0", "9", "8", "7", "6"],
    ["P", "O", "I", "U", "Y"],
    ["ENTER", "L", "K", "J", "H"],
    ["SPACE", "SYMBOL SHIFT", "M", "N", "B"]]

/-- The defaults of 00_scope.md R6. -/
def Config.default : Config where
  im1Vector := 0x0038
  ldBytesEntry := 0x0556
  bitmapBase := 0x4000
  attrBase := 0x5800
  displayLines := 192
  linesPerFrame := 312
  firstDisplayLine := 64
  tstatesPerLine := 224
  borderLeft := 48
  borderRight := 48
  cost := CostTable.default
  intCost := 13
  haltCost := 4
  trapCost := 0
  romProtect := .ignore
  ramResetMode := .noise
  rPolicy := .m1
  palette := defaultPalette
  keymap := defaultKeymap
  autotypeScript := []
  autotypeFrames := 0

/-- FRAME_W = BORDER_LEFT + 256 + BORDER_RIGHT (00_scope.md R6). -/
def Config.frameWidth (c : Config) : Nat := c.borderLeft + 8 * bytesPerLine + c.borderRight

/-- FRAME_H = LINES_PER_FRAME (00_scope.md R6). -/
def Config.frameHeight (c : Config) : Nat := c.linesPerFrame

/-- The preconditions on the parameters (93_implementation_defined.md U16). The display file is the 6144 bytes at
BITMAP_BASE and the 768 at ATTR_BASE. -/
abbrev Config.valid (c : Config) : Prop :=
  0 < c.tstatesPerLine ∧ 0 < c.haltCost ∧ (∀ n ∈ c.cost.values, 0 < n) ∧ 0 < c.linesPerFrame ∧
  c.firstDisplayLine + c.displayLines ≤ c.linesPerFrame ∧
  c.bitmapBase.toNat + 6144 ≤ memSize ∧ c.attrBase.toNat + 768 ≤ memSize

end Sys2Proof
end

