-- ==== Sys2Proof/Machine/State.lean ====
section
/-! DEFINITION. The state of the machine (10_state.md), grouped by the component that owns it, as plain
data, and the machine right after reset. -/

namespace Sys2Proof.Machine

/-- The memory, `MEM` (10_state.md R38): the bytes that differ from what an unlisted address reads as, by
strictly rising address (`Memory.wf`, Machine/Ops.lean). -/
abbrev Memory := List Host.Cell

/-- `IM`: "an interrupt mode (0/1/2)"; "3 never occurs" (10_state.md R26). -/
inductive IntMode where
  | im0 | im1 | im2
  deriving DecidableEq, Repr

/-- `UnrecognisedOpcode(addr, bytes)`, what the `FAULT` latch holds (10_state.md R36). -/
structure UnrecognisedOpcode where
  /-- The address of the instruction's first byte. -/
  addr : Word
  /-- Its one or two opcode bytes. -/
  bytes : List Byte
  deriving DecidableEq, Repr

/-- CpuCore: the register file, the interrupt control state, the fault latch and the T-state counter
(10_state.md R20, R26, R36, R37). A trailing underscore is the spec's prime. -/
structure Cpu where
  a : Byte
  f : Byte
  b : Byte
  c : Byte
  d : Byte
  e : Byte
  h : Byte
  l : Byte
  a_ : Byte
  f_ : Byte
  b_ : Byte
  c_ : Byte
  d_ : Byte
  e_ : Byte
  h_ : Byte
  l_ : Byte
  ix : Word
  iy : Word
  sp : Word
  pc : Word
  i : Byte
  r : Byte
  iff1 : Bool
  iff2 : Bool
  im : IntMode
  halted : Bool
  fault : Option UnrecognisedOpcode
  tstates : Nat
  deriving DecidableEq, Repr

/-- Bus: the keyboard matrix `KB[0..7]` and the border colour (10_state.md R39). -/
structure Bus where
  kb : Vector Byte 8
  border : BitVec 3
  deriving DecidableEq, Repr

/-- A pixel: a colour index 0..15 (10_state.md R40). -/
abbrev Pixel := BitVec 4

/-- VideoGenerator: `FRAME` by rows, `FLASH`, `FRAMECOUNT` (10_state.md R40). -/
structure Video where
  frame : List (List Pixel)
  flash : Bool
  frameCount : Nat
  deriving DecidableEq, Repr

/-- `AUTOTYPE`: the progress of the scripted keypress sequence (60_exceptions.md R357). -/
inductive Autotype where
  | idle
  /-- `framesToGo` frame ends are still to come. -/
  | armed (framesToGo : Nat)
  deriving DecidableEq, Repr

/-- TapeLoader: `TAPE`, `TAPE_POS`, `TAPE_PLAYING`, `AUTOTYPE` (10_state.md R41). -/
structure Tape where
  blocks : List (List Byte)
  pos : Nat
  playing : Bool
  autotype : Autotype
  deriving DecidableEq, Repr

/-- `SCHED` (10_state.md R42). -/
inductive SchedMode where
  | stopped | running | paused
  deriving DecidableEq, Repr

/-- MachineScheduler: `SCHED`, `BREAKPOINTS`, `LINE` (10_state.md R42), and the T-state target of the line in
progress, the frame loop's own variable (60_exceptions.md R340; notes/assumptions/13.md). -/
structure Scheduler where
  mode : SchedMode
  /-- By strictly rising address, so that equal sets are equal lists. -/
  breakpoints : List Word
  line : Nat
  /-- `none` before the line's target has been computed. -/
  target : Option Nat
  deriving DecidableEq, Repr

/-- The whole machine. `cfg` are its parameters, which nothing changes (notes/assumptions/8.md); `free` counts the
free values drawn (the model's own field, notes/assumptions/6.md). -/
structure State where
  cpu : Cpu
  mem : Memory
  bus : Bus
  video : Video
  tape : Tape
  sched : Scheduler
  cfg : Config
  free : Nat
  deriving DecidableEq, Repr

/-- Why a step stops with a fault. There is no reason: the one exception of the machine, UnrecognisedOpcode,
leads to a next state with the `FAULT` latch set (60_exceptions.md R321), and "no instruction of the admitted
set raises an exception" (00_scope.md R10). No step can raise a value of this empty type: safe. -/
inductive Fault where
  deriving DecidableEq, Repr

/-- Why the model gives a step no meaning. -/
inductive Refusal where
  /-- Raised by `exec`'s arm of an instruction that has no meaning yet, named by its mnemonic; no arm
  raises it now. Safe: a run stops where the hardware goes on. -/
  | notModelled (mnemonic : String)
  deriving DecidableEq, Repr

/-- The outcome of a step or of an instruction. -/
abbrev Result := Host.Outcome State Fault Refusal

/-- The machine right after reset: creation, "a reset applied to" the initial state of
70_reset_and_hazards.md R401, in the "deterministic test mode" of 10_state.md R44 and R400, which gives the registers
the spec calls "any" the value 0, and `SP` 0xFFFF (notes/assumptions/1.md, 2.md, 3.md: DESIGN CHOICE, unsafe). -/
def State.reset : State where
  cpu :=
    { a := 0, f := 0, b := 0, c := 0, d := 0, e := 0, h := 0, l := 0
      a_ := 0, f_ := 0, b_ := 0, c_ := 0, d_ := 0, e_ := 0, h_ := 0, l_ := 0
      ix := 0, iy := 0, sp := 0xFFFF, pc := 0x0000, i := 0, r := 0
      iff1 := false, iff2 := false, im := .im0, halted := false, fault := none, tstates := 0 }
  mem := []
  bus := { kb := Vector.replicate 8 0xFF, border := 0 }
  video := { frame := List.replicate 312 (List.replicate 352 0), flash := false, frameCount := 0 }
  tape := { blocks := [], pos := 0, playing := false, autotype := .idle }
  sched := { mode := .stopped, breakpoints := [], line := 0, target := none }
  cfg := { Config.default with ramResetMode := .zero }
  free := 0

end Sys2Proof.Machine
end

