-- ==== Sys2Proof/Machine/Ops.lean ====
section
/-! DEFINITION. The named operations over memory, ports, stack and program counter, taking the one exception,
interrupt entry and the return from it. -/

namespace Sys2Proof.Machine

/-! ## Memory (20_memory.md R60 to R66) -/

/-- What an address that is not listed reads as (notes/assumptions/2.md): 0x00, RAM after a reset in the deterministic
test mode (10_state.md R44). DESIGN CHOICE, unsafe. -/
def Memory.unlisted : Byte := 0

/-- The byte at an address. -/
def Memory.read : Memory → Nat → Byte
  | [], _ => Memory.unlisted
  | (a, v) :: m, k => if a = k then v else Memory.read m k

/-- Set the byte at an address, keeping the canonical form. -/
def Memory.set : Memory → Nat → Byte → Memory
  | [], k, v => if v = Memory.unlisted then [] else [(k, v)]
  | (a, w) :: m, k, v =>
    if k < a then (if v = Memory.unlisted then (a, w) :: m else (k, v) :: (a, w) :: m)
    else if k = a then (if v = Memory.unlisted then m else (k, v) :: m)
    else (a, w) :: Memory.set m k v

/-- The canonical form: addresses strictly rising and inside the address space, no entry equal to what an
unlisted address reads as. -/
abbrev Memory.wf (m : Memory) : Prop :=
  m.Pairwise (fun p q => p.1 < q.1) ∧ ∀ p ∈ m, p.2 ≠ Memory.unlisted ∧ p.1 < memSize

/-- `MEM[a] <- v` unless `a` is in ROM: the memory half of `MemWrite` (R63). -/
def Memory.write (m : Memory) (addr : Word) (v : Byte) : Memory :=
  if addr.toNat < romSize then m else m.set addr.toNat v

/-- `MemRead(addr, 1)` (R62): every address is readable and reading changes nothing. -/
def State.memRead (s : State) (addr : Word) : Byte := s.mem.read addr.toNat

/-- `MemWrite(addr, 1, v)` (R63): "If `a < ROM_SIZE` the write does not change `MEM`, in both protection modes". -/
def State.memWrite (s : State) (addr : Word) (v : Byte) : State := { s with mem := s.mem.write addr v }

/-- `MemRead(addr, 2)` (R64). -/
def State.memRead16 (s : State) (addr : Word) : Word := mkWord (s.memRead (addr + 1)) (s.memRead addr)

/-- `MemWrite(addr, 2, v)` (R64): low byte, then high byte. -/
def State.memWrite16 (s : State) (addr v : Word) : State :=
  (s.memWrite addr (loByte v)).memWrite (addr + 1) (hiByte v)

/-- Does `MemWrite(addr, 1, _)` surface a diagnostic to the host? Only "with `ROM_PROTECT = disallow`" (R63).
Machine/Notices.lean says which writes of an action do. -/
def romDiagnostic (c : Config) (addr : Word) : Bool :=
  decide (addr.toNat < romSize) && decide (c.romProtect = .disallow)

/-! ## Counters and the program counter -/

/-- `TSTATES <- TSTATES + n` (10_state.md R37). -/
def State.charge (s : State) (n : Nat) : State := { s with cpu := { s.cpu with tstates := s.cpu.tstates + n } }

/-- `PC <- target` (10_state.md R24). -/
def State.setPc (s : State) (target : Word) : State := { s with cpu := { s.cpu with pc := target } }

/-- `R[6:0] <- R[6:0] + 1` modulo 128, `R[7]` kept (10_state.md R25). -/
def bumpR (r : Byte) : Byte := (r &&& 0x80#8) ||| ((r + 1#8) &&& 0x7F#8)

/-- Advance the refresh register once, at a halted tick or an accepted interrupt. -/
def State.advanceR (s : State) : State := { s with cpu := { s.cpu with r := bumpR s.cpu.r } }

/-- The R increment of `FetchOp()`: only under R_POLICY = m1 (30_encoding.md R92). -/
def State.fetchR (s : State) : State := if s.cfg.rPolicy = .m1 then s.advanceR else s

/-- Draw the byte `slot` of the next free set and count it (notes/assumptions/6.md). -/
def State.drawFree (s : State) (slot : Nat) : Byte × State :=
  (Config.freeByte s.free slot, { s with free := s.free + 1 })

/-- `R` as an instruction or the host reads it (10_state.md R25): the register, or, under R_POLICY = any, `R[7]` with an
arbitrary value in bits 6..0. DESIGN CHOICE, safe (notes/assumptions/7.md): the value is slot 0 of a set drawn by this read
alone, so it is no register's value after a reset, and no other read's. -/
def State.readR (s : State) : Byte × State :=
  match s.cfg.rPolicy with
  | .m1 => (s.cpu.r, s)
  | .any => ((s.cpu.r &&& 0x80#8) ||| ((s.drawFree 0).1 &&& 0x7F#8), (s.drawFree 0).2)

/-! ## Stack (45_stack_calls.md R230, R231) -/

/-- `Push16(v)`: "decrements SP and writes high byte, then decrements SP again and writes low byte". -/
def State.push16 (s : State) (v : Word) : State :=
  let s1 := { s with cpu := { s.cpu with sp := s.cpu.sp - 1 } }
  let s2 := s1.memWrite s1.cpu.sp (hiByte v)
  let s3 := { s2 with cpu := { s2.cpu with sp := s2.cpu.sp - 1 } }
  s3.memWrite s3.cpu.sp (loByte v)

/-- The word `Pop16()` returns: low byte at `SP`, high byte at `SP + 1`. -/
def State.stackTop (s : State) : Word := mkWord (s.memRead (s.cpu.sp + 1)) (s.memRead s.cpu.sp)

/-- What `Pop16()` leaves: `SP` 2 higher. -/
def State.dropStack (s : State) : State := { s with cpu := { s.cpu with sp := s.cpu.sp + 2 } }

/-- `PC <- Pop16()`: the return of RET, RET cc, RETI, RETN and the tape trap, and so the return from the
interrupt handler (60_exceptions.md R333: "The hardware restores nothing but `PC`"). -/
def State.ret (s : State) : State := s.dropStack.setPc s.stackTop

/-- `Push16(PC); PC <- target`: CALL, RST and interrupt entry (45_stack_calls.md R240). -/
def State.call (s : State) (target : Word) : State := (s.push16 s.cpu.pc).setPc target

/-! ## Ports (20_memory.md R70 to R74) -/

/-- `UlaIn(port)` (R71): the AND of the keyboard rows whose select bit, bit `8 + i`, is 0. -/
def Bus.ulaIn (bus : Bus) (port : Word) : Byte :=
  (List.finRange 8).foldl (fun v i => if port.getLsbD (8 + i.val) then v else v &&& bus.kb[i]) 0xFF#8

/-- `PortIn(port)` (R70, R74): an odd port reads 0xFF. -/
def Bus.portIn (bus : Bus) (port : Word) : Byte := if port.getLsbD 0 then 0xFF#8 else bus.ulaIn port

/-- `PortOut(port, v)` (R70, R72, R74): an even port sets BORDER, an odd port does nothing. -/
def Bus.portOut (bus : Bus) (port : Word) (v : Byte) : Bus :=
  if port.getLsbD 0 then bus else { bus with border := v.extractLsb' 0 3 }

/-! ## The exception and the interrupt (60_exceptions.md R321, R330) -/

/-- `raise UnrecognisedOpcode(pc0, key)`, with `PC` still at the instruction's first byte: the latch is set, a
running scheduler pauses, nothing else changes (R321). -/
def State.raiseUnrecognised (s : State) (key : List Byte) : State :=
  { s with
    cpu := { s.cpu with fault := some { addr := s.cpu.pc, bytes := key } }
    sched := { s.sched with mode := if s.sched.mode = .running then .paused else s.sched.mode } }

/-- `Interrupt()` (R330): effective only with `FAULT = none` and `IFF1 = 1`; otherwise the request is lost
(R332). -/
def State.interrupt (s : State) : State :=
  if s.cpu.fault ≠ none ∨ s.cpu.iff1 = false then s
  else
    let s1 := { s with cpu := { s.cpu with iff1 := false, iff2 := false, halted := false } }
    (s1.advanceR.call s.cfg.im1Vector).charge s.cfg.intCost

end Sys2Proof.Machine
end

