-- ==== Sys2Proof/Machine/Operands.lean ====
section
/-! DEFINITION. Operand access: the register tables, the pairs and the conditions of 30_encoding.md R96, and the
flag bits of `F` (10_state.md R27). -/

namespace Sys2Proof.Machine

/-! ## Registers -/

/-- `r[i]`, read. -/
def Cpu.reg (c : Cpu) : Reg → Byte
  | .b => c.b
  | .c => c.c
  | .d => c.d
  | .e => c.e
  | .h => c.h
  | .l => c.l
  | .a => c.a

/-- `r[i] <- v`. -/
def Cpu.setReg (c : Cpu) : Reg → Byte → Cpu
  | .b, v => { c with b := v }
  | .c, v => { c with c := v }
  | .d, v => { c with d := v }
  | .e, v => { c with e := v }
  | .h, v => { c with h := v }
  | .l, v => { c with l := v }
  | .a, v => { c with a := v }

/-- Pairs: the first-named register is the high byte (10_state.md R21). -/
def Cpu.af (c : Cpu) : Word := mkWord c.a c.f
def Cpu.bc (c : Cpu) : Word := mkWord c.b c.c
def Cpu.de (c : Cpu) : Word := mkWord c.d c.e
def Cpu.hl (c : Cpu) : Word := mkWord c.h c.l

/-- "writing `HL` writes `H` and `L`" (10_state.md R21). -/
def Cpu.setAf (c : Cpu) (v : Word) : Cpu := { c with a := hiByte v, f := loByte v }
def Cpu.setBc (c : Cpu) (v : Word) : Cpu := { c with b := hiByte v, c := loByte v }
def Cpu.setDe (c : Cpu) (v : Word) : Cpu := { c with d := hiByte v, e := loByte v }
def Cpu.setHl (c : Cpu) (v : Word) : Cpu := { c with h := hiByte v, l := loByte v }

/-- `rp[p]`, read. -/
def Cpu.pair (c : Cpu) : RegPair → Word
  | .bc => c.bc
  | .de => c.de
  | .hl => c.hl
  | .sp => c.sp

/-- `rp[p] <- v`. -/
def Cpu.setPair (c : Cpu) : RegPair → Word → Cpu
  | .bc, v => c.setBc v
  | .de, v => c.setDe v
  | .hl, v => c.setHl v
  | .sp, v => { c with sp := v }

/-- `rp2[p]`, read. -/
def Cpu.stackPair (c : Cpu) : StackPair → Word
  | .bc => c.bc
  | .de => c.de
  | .hl => c.hl
  | .af => c.af

/-- `rp2[p] <- v`. -/
def Cpu.setStackPair (c : Cpu) : StackPair → Word → Cpu
  | .bc, v => c.setBc v
  | .de, v => c.setDe v
  | .hl, v => c.setHl v
  | .af, v => c.setAf v

/-- Change the CPU alone. -/
def State.withCpu (s : State) (c : Cpu) : State := { s with cpu := c }

/-- The byte `(HL)` reads (30_encoding.md R96, index 6). -/
def State.readHl (s : State) : Byte := s.memRead s.cpu.hl

/-- Write the byte at `HL`. -/
def State.writeHl (s : State) (v : Byte) : State := s.memWrite s.cpu.hl v

/-! ## Flags (10_state.md R27) -/

/-- The eight flags of `F`, packed: S, Z, Y, H, X, PV, N, C in bits 7..0. -/
def packFlags (s z y h x pv n c : Bool) : Byte :=
  BitVec.ofBool s ++ BitVec.ofBool z ++ BitVec.ofBool y ++ BitVec.ofBool h ++
    BitVec.ofBool x ++ BitVec.ofBool pv ++ BitVec.ofBool n ++ BitVec.ofBool c

def flagS (f : Byte) : Bool := f.getLsbD 7
def flagZ (f : Byte) : Bool := f.getLsbD 6
def flagY (f : Byte) : Bool := f.getLsbD 5
def flagH (f : Byte) : Bool := f.getLsbD 4
def flagX (f : Byte) : Bool := f.getLsbD 3
def flagPV (f : Byte) : Bool := f.getLsbD 2
def flagN (f : Byte) : Bool := f.getLsbD 1
def flagC (f : Byte) : Bool := f.getLsbD 0

/-- `cond(y)` of `cc[y]` on the flags `f` (30_encoding.md R96). -/
def condHolds (f : Byte) : Cond → Bool
  | .nz => !flagZ f
  | .z => flagZ f
  | .nc => !flagC f
  | .c => flagC f
  | .po => !flagPV f
  | .pe => flagPV f
  | .p => !flagS f
  | .m => flagS f

end Sys2Proof.Machine
end

