-- ==== Sys2Proof/Machine/Flags.lean ====
section
/-! DEFINITION. Every flag computation of the spec: the helpers of 10_state.md R29 and the flag rules of the
instruction files. Each arithmetic helper takes its operands (and the old `F` where the rule reads or keeps bits of
it) and answers the result with the new `F`. -/

namespace Sys2Proof.Machine

/-- `parity(v)`: true when the number of 1 bits is even (00_scope.md R7). -/
def parityEven (v : Byte) : Bool :=
  !(v.getLsbD 0 ^^ v.getLsbD 1 ^^ v.getLsbD 2 ^^ v.getLsbD 3 ^^
    v.getLsbD 4 ^^ v.getLsbD 5 ^^ v.getLsbD 6 ^^ v.getLsbD 7)

/-- An `F` whose S, Z, Y, X are `szxy(res)` (R29): S and the undocumented Y, X mirror bits 7, 5, 3 of the
result, Z is set exactly when it is 0. -/
def resultFlags (res : Byte) (h pv n c : Bool) : Byte :=
  packFlags (res.getLsbD 7) (res == 0#8) (res.getLsbD 5) h (res.getLsbD 3) pv n c

/-- `cin` as a number. -/
def carryIn (c : Bool) : Nat := if c then 1 else 0

/-- `Add8(a, b, cin)` (R29). -/
def add8 (a b : Byte) (cin : Bool) : Byte × Byte :=
  let sum := a.toNat + b.toNat + carryIn cin
  let res := BitVec.ofNat 8 sum
  let h := decide (a.toNat % 16 + b.toNat % 16 + carryIn cin > 15)
  let pv := ((a ^^^ res) &&& (b ^^^ res)).getLsbD 7
  (res, resultFlags res h pv false (decide (sum > 255)))

/-- `Sub8(a, b, cin)` (R29); overflow by decision D16. -/
def sub8 (a b : Byte) (cin : Bool) : Byte × Byte :=
  let diff : Int := (a.toNat : Int) - b.toNat - carryIn cin
  let res := BitVec.ofInt 8 diff
  let h := decide ((a.toNat % 16 : Int) - (b.toNat % 16 : Int) - carryIn cin < 0)
  let pv := ((a ^^^ b) &&& (a ^^^ res)).getLsbD 7
  (res, resultFlags res h pv true (decide (diff < 0)))

/-- `Logic(res, h)` (R29): parity, N = 0, C = 0. -/
def logicFlags (res : Byte) (h : Bool) : Byte := resultFlags res h (parityEven res) false false

/-- `AND` (42_alu8.md R175). -/
def and8 (a b : Byte) : Byte × Byte := (a &&& b, logicFlags (a &&& b) true)

/-- `XOR` (42_alu8.md R176). -/
def xor8 (a b : Byte) : Byte × Byte := (a ^^^ b, logicFlags (a ^^^ b) false)

/-- `OR` (42_alu8.md R177). -/
def or8 (a b : Byte) : Byte × Byte := (a ||| b, logicFlags (a ||| b) false)

/-- `INC` of a byte (42_alu8.md R181): C kept. -/
def inc8 (v f : Byte) : Byte × Byte :=
  (v + 1#8, resultFlags (v + 1#8) (decide (v.toNat % 16 = 15)) (v == 0x7F#8) false (flagC f))

/-- `DEC` of a byte (42_alu8.md R182): C kept. -/
def dec8 (v f : Byte) : Byte × Byte :=
  (v - 1#8, resultFlags (v - 1#8) (decide (v.toNat % 16 = 0)) (v == 0x80#8) true (flagC f))

/-- `DAA` (42_alu8.md R185): decimal-adjust `a` by the flags C, H, N of `f`. -/
def daa8 (a f : Byte) : Byte × Byte :=
  let low := flagH f || decide (a.toNat % 16 > 9)
  let high := flagC f || decide (a.toNat > 0x99)
  let corr : Byte := (if low then 0x06#8 else 0#8) ||| (if high then 0x60#8 else 0#8)
  let res := if flagN f then a - corr else a + corr
  let h := if flagN f then flagH f && decide (a.toNat % 16 < 6) else decide (a.toNat % 16 > 9)
  (res, resultFlags res h (parityEven res) (flagN f) high)

/-- The flag rule shared by CPL, SCF, CCF and the accumulator rotates: Y and X from the accumulator `acc`, and
S, Z, PV of `f` kept (42_alu8.md R186 to R189). -/
def accFlags (acc f : Byte) (h n c : Bool) : Byte :=
  packFlags (flagS f) (flagZ f) (acc.getLsbD 5) h (acc.getLsbD 3) (flagPV f) n c

/-- The flag rule of the CB rotates and shifts (46_bit_rotate.md R268), `co` the bit shifted out. -/
def rotateFlags (res : Byte) (co : Bool) : Byte := resultFlags res false (parityEven res) false co

/-- `ADD HL,ss` (43_alu16.md R210): carry out of bits 15 and 11, Y and X from the high result byte, S, Z, PV kept. -/
def add16 (a b : Word) (f : Byte) : Word × Byte :=
  let sum := a.toNat + b.toNat
  let res := BitVec.ofNat 16 sum
  let h := decide (a.toNat % 0x1000 + b.toNat % 0x1000 > 0x0FFF)
  (res, packFlags (flagS f) (flagZ f) (res.getLsbD 13) h (res.getLsbD 11) (flagPV f) false
    (decide (sum > 0xFFFF)))

/-- The flags after one iteration of a block move (44_block.md R220): H = 0, N = 0, PV as given; the other five
kept. -/
def blockFlags (f : Byte) (pv : Bool) : Byte :=
  packFlags (flagS f) (flagZ f) (flagY f) false (flagX f) pv false (flagC f)

/-- `BIT` (46_bit_rotate.md R270): Z is the complement of the tested bit, H = 1, N = 0; the other five kept. -/
def bitFlags (f v : Byte) (b : BitVec 3) : Byte :=
  packFlags (flagS f) (!v.getLsbD b.toNat) (flagY f) true (flagX f) (flagPV f) false (flagC f)

/-- `LD A,I` and `LD A,R` (47_io_system.md R302): S, Z, Y, X from the value loaded, PV = IFF2, C kept. -/
def loadSpecialFlags (v f : Byte) (iff2 : Bool) : Byte := resultFlags v false iff2 false (flagC f)

/-- `F` with its carry bit replaced: the tape trap's only flag effect (60_exceptions.md R354). -/
def withCarry (f : Byte) (c : Bool) : Byte :=
  packFlags (flagS f) (flagZ f) (flagY f) (flagH f) (flagX f) (flagPV f) (flagN f) c

/-! ## Rotates and shifts: the result and the bit shifted out (46_bit_rotate.md R261 to R267) -/

def rlc8 (v : Byte) : Byte × Bool := (shiftInLeft v (v.getLsbD 7), v.getLsbD 7)
def rrc8 (v : Byte) : Byte × Bool := (shiftInRight (v.getLsbD 0) v, v.getLsbD 0)
def rl8 (v : Byte) (cin : Bool) : Byte × Bool := (shiftInLeft v cin, v.getLsbD 7)
def rr8 (v : Byte) (cin : Bool) : Byte × Bool := (shiftInRight cin v, v.getLsbD 0)
def sla8 (v : Byte) : Byte × Bool := (shiftInLeft v false, v.getLsbD 7)
def sra8 (v : Byte) : Byte × Bool := (shiftInRight (v.getLsbD 7) v, v.getLsbD 0)
def srl8 (v : Byte) : Byte × Bool := (shiftInRight false v, v.getLsbD 0)

end Sys2Proof.Machine
end

