-- ==== Sys2Proof/Machine/Timing.lean ====
section
/-! DEFINITION. What an instruction costs, in T-states, by the parameter `COST` (00_scope.md R6). HALT_COST, INT_COST and
TRAP_COST are parameters of their own. -/

namespace Sys2Proof.Machine

/-- The cost of an instruction; of one with two outcomes, the cost when the condition holds (taken) or the block
move repeats. -/
def cost (t : CostTable) : Instr → Nat
  | .ldDdNn _ _ => t.ldDdNn
  | .ldIxNn _ => t.ldIxNn
  | .ldIyNn _ => t.ldIyNn
  | .ldRR _ _ => t.ldRR
  | .ldRN _ _ => t.ldRN
  | .ldRHl _ => t.ldRHl
  | .ldHlR _ => t.ldHlR
  | .ldHlN _ => t.ldHlN
  | .ldABc => t.ldABc
  | .ldADe => t.ldADe
  | .ldANn _ => t.ldANn
  | .ldBcA => t.ldBcA
  | .ldDeA => t.ldDeA
  | .ldNnA _ => t.ldNnA
  | .ldHlNn _ => t.ldHlNn
  | .ldNnHl _ => t.ldNnHl
  | .ldSpHl => t.ldSpHl
  | .exDeHl => t.exDeHl
  | .exAfAf => t.exAfAf
  | .exx => t.exx
  | .jr _ => t.jr
  | .jrCc _ _ => t.jrCc
  | .djnz _ => t.djnz
  | .jpNn _ => t.jpNn
  | .jpCcNn _ _ => t.jpCcNn
  | .jpHl => t.jpHl
  | .addR _ => t.addR
  | .addHl => t.addHl
  | .addN _ => t.addN
  | .adcR _ => t.adcR
  | .adcHl => t.adcHl
  | .adcN _ => t.adcN
  | .subR _ => t.subR
  | .subHl => t.subHl
  | .subN _ => t.subN
  | .sbcR _ => t.sbcR
  | .sbcHl => t.sbcHl
  | .sbcN _ => t.sbcN
  | .andR _ => t.andR
  | .andHl => t.andHl
  | .andN _ => t.andN
  | .xorR _ => t.xorR
  | .xorHl => t.xorHl
  | .xorN _ => t.xorN
  | .orR _ => t.orR
  | .orHl => t.orHl
  | .orN _ => t.orN
  | .cpR _ => t.cpR
  | .cpHl => t.cpHl
  | .cpN _ => t.cpN
  | .incR _ => t.incR
  | .incHl => t.incHl
  | .decR _ => t.decR
  | .decHl => t.decHl
  | .daa => t.daa
  | .cpl => t.cpl
  | .scf => t.scf
  | .ccf => t.ccf
  | .rlca => t.rlca
  | .rrca => t.rrca
  | .rla => t.rla
  | .rra => t.rra
  | .addHlSs _ => t.addHlSs
  | .incSs _ => t.incSs
  | .decSs _ => t.decSs
  | .ldir => t.ldir
  | .lddr => t.lddr
  | .pushQq _ => t.pushQq
  | .popQq _ => t.popQq
  | .pushIx => t.pushIx
  | .pushIy => t.pushIy
  | .popIx => t.popIx
  | .popIy => t.popIy
  | .exSpHl => t.exSpHl
  | .callNn _ => t.callNn
  | .callCcNn _ _ => t.callCcNn
  | .ret => t.ret
  | .retCc _ => t.retCc
  | .reti => t.reti
  | .rst _ => t.rst
  | .retn => t.retn
  | .rlcR _ => t.rlcR
  | .rlcHl => t.rlcHl
  | .rrcR _ => t.rrcR
  | .rrcHl => t.rrcHl
  | .rlR _ => t.rlR
  | .rlHl => t.rlHl
  | .rrR _ => t.rrR
  | .rrHl => t.rrHl
  | .slaR _ => t.slaR
  | .slaHl => t.slaHl
  | .sraR _ => t.sraR
  | .sraHl => t.sraHl
  | .srlR _ => t.srlR
  | .srlHl => t.srlHl
  | .bitR _ _ => t.bitR
  | .bitHl _ => t.bitHl
  | .resR _ _ => t.resR
  | .resHl _ => t.resHl
  | .setR _ _ => t.setR
  | .setHl _ => t.setHl
  | .inAN _ => t.inAN
  | .outNA _ => t.outNA
  | .nop => t.nop
  | .halt => t.halt
  | .di => t.di
  | .ei => t.ei
  | .im0 => t.im0
  | .im1 => t.im1
  | .im2 => t.im2
  | .ldIA => t.ldIA
  | .ldRA => t.ldRA
  | .ldAI => t.ldAI
  | .ldAR => t.ldAR

/-- The cost of an instruction with two outcomes when the condition fails (not taken) or the block move ends; of
every other instruction, its cost. -/
def costNotTaken (t : CostTable) : Instr → Nat
  | .jrCc _ _ => t.jrCcNotTaken
  | .djnz _ => t.djnzNotTaken
  | .callCcNn _ _ => t.callCcNnNotTaken
  | .retCc _ => t.retCcNotTaken
  | .ldir => t.ldirLast
  | .lddr => t.lddrLast
  | i => cost t i

end Sys2Proof.Machine
end

