-- ==== Sys2Proof/Machine/Alu16.lean ====
section
/-! DEFINITION. 16-bit arithmetic (43_alu16.md). -/

namespace Sys2Proof.Machine

/-- `ADD HL,ss` (R210). -/
def execAddHlSs (ss : RegPair) (s : State) : Result :=
  let out := add16 s.cpu.hl (s.cpu.pair ss) s.cpu.f
  .next ((s.withCpu { s.cpu.setHl out.1 with f := out.2 }).charge (cost s.cfg.cost (.addHlSs ss)))

/-- `INC ss`: no flag (R211). -/
def execIncSs (ss : RegPair) (s : State) : Result :=
  .next ((s.withCpu (s.cpu.setPair ss (s.cpu.pair ss + 1))).charge (cost s.cfg.cost (.incSs ss)))

/-- `DEC ss`: no flag (R212). -/
def execDecSs (ss : RegPair) (s : State) : Result :=
  .next ((s.withCpu (s.cpu.setPair ss (s.cpu.pair ss - 1))).charge (cost s.cfg.cost (.decSs ss)))

end Sys2Proof.Machine
end

