-- ==== Sys2Proof/Machine/Alu8.lean ====
section
/-! DEFINITION. 8-bit arithmetic, logic and accumulator rotates (42_alu8.md). The source operand of `alu[y]` is a
register, the byte at `HL` or an immediate (R170). -/

namespace Sys2Proof.Machine

/-- Write an accumulator result and the flags. -/
def State.setAF (s : State) (out : Byte × Byte) : State := s.withCpu { s.cpu with a := out.1, f := out.2 }

/-- Write the flags alone: "`CP` never mutates the accumulator" (R178). -/
def State.setF (s : State) (f : Byte) : State := s.withCpu { s.cpu with f := f }

/-- `ADD A,v` (R171). -/
def State.aluAdd (s : State) (v : Byte) : State := s.setAF (add8 s.cpu.a v false)
/-- `ADC A,v`, "with `F.C` read before `F` is written" (R172). -/
def State.aluAdc (s : State) (v : Byte) : State := s.setAF (add8 s.cpu.a v (flagC s.cpu.f))
/-- `SUB v` (R173). -/
def State.aluSub (s : State) (v : Byte) : State := s.setAF (sub8 s.cpu.a v false)
/-- `SBC A,v` (R174). -/
def State.aluSbc (s : State) (v : Byte) : State := s.setAF (sub8 s.cpu.a v (flagC s.cpu.f))
/-- `AND v` (R175). -/
def State.aluAnd (s : State) (v : Byte) : State := s.setAF (and8 s.cpu.a v)
/-- `XOR v` (R176). -/
def State.aluXor (s : State) (v : Byte) : State := s.setAF (xor8 s.cpu.a v)
/-- `OR v` (R177). -/
def State.aluOr (s : State) (v : Byte) : State := s.setAF (or8 s.cpu.a v)
/-- `CP v`: "computes flags identically to `SUB`", result discarded (R178). -/
def State.aluCp (s : State) (v : Byte) : State := s.setF (sub8 s.cpu.a v false).2

/-- `ADD A,r` (R171). -/
def execAddR (r : Reg) (s : State) : Result :=
  .next ((s.aluAdd (s.cpu.reg r)).charge (cost s.cfg.cost (.addR r)))

/-- `ADD A,(HL)` (R171). -/
def execAddHl (s : State) : Result :=
  .next ((s.aluAdd s.readHl).charge (cost s.cfg.cost .addHl))

/-- `ADD A,n` (R171). -/
def execAddN (n : Byte) (s : State) : Result :=
  .next ((s.aluAdd n).charge (cost s.cfg.cost (.addN n)))

/-- `ADC A,r` (R172). -/
def execAdcR (r : Reg) (s : State) : Result :=
  .next ((s.aluAdc (s.cpu.reg r)).charge (cost s.cfg.cost (.adcR r)))

/-- `ADC A,(HL)` (R172). -/
def execAdcHl (s : State) : Result :=
  .next ((s.aluAdc s.readHl).charge (cost s.cfg.cost .adcHl))

/-- `ADC A,n` (R172). -/
def execAdcN (n : Byte) (s : State) : Result :=
  .next ((s.aluAdc n).charge (cost s.cfg.cost (.adcN n)))

/-- `SUB r` (R173). -/
def execSubR (r : Reg) (s : State) : Result :=
  .next ((s.aluSub (s.cpu.reg r)).charge (cost s.cfg.cost (.subR r)))

/-- `SUB (HL)` (R173). -/
def execSubHl (s : State) : Result :=
  .next ((s.aluSub s.readHl).charge (cost s.cfg.cost .subHl))

/-- `SUB n` (R173). -/
def execSubN (n : Byte) (s : State) : Result :=
  .next ((s.aluSub n).charge (cost s.cfg.cost (.subN n)))

/-- `SBC A,r` (R174). -/
def execSbcR (r : Reg) (s : State) : Result :=
  .next ((s.aluSbc (s.cpu.reg r)).charge (cost s.cfg.cost (.sbcR r)))

/-- `SBC A,(HL)` (R174). -/
def execSbcHl (s : State) : Result :=
  .next ((s.aluSbc s.readHl).charge (cost s.cfg.cost .sbcHl))

/-- `SBC A,n` (R174). -/
def execSbcN (n : Byte) (s : State) : Result :=
  .next ((s.aluSbc n).charge (cost s.cfg.cost (.sbcN n)))

/-- `AND r` (R175). -/
def execAndR (r : Reg) (s : State) : Result :=
  .next ((s.aluAnd (s.cpu.reg r)).charge (cost s.cfg.cost (.andR r)))

/-- `AND (HL)` (R175). -/
def execAndHl (s : State) : Result :=
  .next ((s.aluAnd s.readHl).charge (cost s.cfg.cost .andHl))

/-- `AND n` (R175). -/
def execAndN (n : Byte) (s : State) : Result :=
  .next ((s.aluAnd n).charge (cost s.cfg.cost (.andN n)))

/-- `XOR r` (R176). -/
def execXorR (r : Reg) (s : State) : Result :=
  .next ((s.aluXor (s.cpu.reg r)).charge (cost s.cfg.cost (.xorR r)))

/-- `XOR (HL)` (R176). -/
def execXorHl (s : State) : Result :=
  .next ((s.aluXor s.readHl).charge (cost s.cfg.cost .xorHl))

/-- `XOR n` (R176). -/
def execXorN (n : Byte) (s : State) : Result :=
  .next ((s.aluXor n).charge (cost s.cfg.cost (.xorN n)))

/-- `OR r` (R177). -/
def execOrR (r : Reg) (s : State) : Result :=
  .next ((s.aluOr (s.cpu.reg r)).charge (cost s.cfg.cost (.orR r)))

/-- `OR (HL)` (R177). -/
def execOrHl (s : State) : Result :=
  .next ((s.aluOr s.readHl).charge (cost s.cfg.cost .orHl))

/-- `OR n` (R177). -/
def execOrN (n : Byte) (s : State) : Result :=
  .next ((s.aluOr n).charge (cost s.cfg.cost (.orN n)))

/-- `CP r` (R178). -/
def execCpR (r : Reg) (s : State) : Result :=
  .next ((s.aluCp (s.cpu.reg r)).charge (cost s.cfg.cost (.cpR r)))

/-- `CP (HL)` (R178). -/
def execCpHl (s : State) : Result :=
  .next ((s.aluCp s.readHl).charge (cost s.cfg.cost .cpHl))

/-- `CP n` (R178). -/
def execCpN (n : Byte) (s : State) : Result :=
  .next ((s.aluCp n).charge (cost s.cfg.cost (.cpN n)))

/-- `INC r` (R181). -/
def execIncR (r : Reg) (s : State) : Result :=
  let out := inc8 (s.cpu.reg r) s.cpu.f
  .next ((s.withCpu { s.cpu.setReg r out.1 with f := out.2 }).charge (cost s.cfg.cost (.incR r)))

/-- `INC (HL)`: in ROM "the write is dropped while the flags still follow the computed result" (R181). -/
def execIncHl (s : State) : Result :=
  let out := inc8 s.readHl s.cpu.f
  .next (((s.writeHl out.1).setF out.2).charge (cost s.cfg.cost .incHl))

/-- `DEC r` (R182). -/
def execDecR (r : Reg) (s : State) : Result :=
  let out := dec8 (s.cpu.reg r) s.cpu.f
  .next ((s.withCpu { s.cpu.setReg r out.1 with f := out.2 }).charge (cost s.cfg.cost (.decR r)))

/-- `DEC (HL)`: in ROM "the write is dropped while the flags still follow the computed result" (R182). -/
def execDecHl (s : State) : Result :=
  let out := dec8 s.readHl s.cpu.f
  .next (((s.writeHl out.1).setF out.2).charge (cost s.cfg.cost .decHl))

/-- `DAA` (R185). -/
def execDaa (s : State) : Result :=
  .next ((s.setAF (daa8 s.cpu.a s.cpu.f)).charge (cost s.cfg.cost .daa))

/-- `CPL`: `A <- ~A`, Y and X from the new `A` (R186). -/
def execCpl (s : State) : Result :=
  .next ((s.setAF (~~~s.cpu.a, accFlags (~~~s.cpu.a) s.cpu.f true true (flagC s.cpu.f))).charge (cost s.cfg.cost .cpl))

/-- `SCF` (R187). -/
def execScf (s : State) : Result :=
  .next ((s.setF (accFlags s.cpu.a s.cpu.f false false true)).charge (cost s.cfg.cost .scf))

/-- `CCF`: "`H` = previous `C`" (R188). -/
def execCcf (s : State) : Result :=
  .next ((s.setF (accFlags s.cpu.a s.cpu.f (flagC s.cpu.f) false (!flagC s.cpu.f))).charge (cost s.cfg.cost .ccf))

/-- An accumulator rotate: the result in `A`, the bit rotated out in C, H = N = 0, S, Z, PV kept (R189). -/
def State.rotateA (s : State) (out : Byte × Bool) : State :=
  s.setAF (out.1, accFlags out.1 s.cpu.f false false out.2)

/-- `RLCA` (R190). -/
def execRlca (s : State) : Result :=
  .next ((s.rotateA (rlc8 s.cpu.a)).charge (cost s.cfg.cost .rlca))

/-- `RRCA` (R191). -/
def execRrca (s : State) : Result :=
  .next ((s.rotateA (rrc8 s.cpu.a)).charge (cost s.cfg.cost .rrca))

/-- `RLA` (R192). -/
def execRla (s : State) : Result :=
  .next ((s.rotateA (rl8 s.cpu.a (flagC s.cpu.f))).charge (cost s.cfg.cost .rla))

/-- `RRA` (R193). -/
def execRra (s : State) : Result :=
  .next ((s.rotateA (rr8 s.cpu.a (flagC s.cpu.f))).charge (cost s.cfg.cost .rra))

end Sys2Proof.Machine
end

