-- ==== Sys2Proof/Machine/Block.lean ====
section
/-! DEFINITION. Block moves (44_block.md). One step is one iteration: while `BC` is not 0 after the decrement, `PC`
goes back to the ED byte and the next step fetches the instruction again (R220). -/

namespace Sys2Proof.Machine

/-- One iteration: the byte at `HL` to `DE`; `HL` and `DE` moved by `delta`; `BC` decremented (R221, R222). -/
def State.blockMove (s : State) (delta : Word) : State :=
  let s1 := s.memWrite s.cpu.de s.readHl
  s1.withCpu (((s1.cpu.setHl (s.cpu.hl + delta)).setDe (s.cpu.de + delta)).setBc (s.cpu.bc - 1))

/-- `LDIR`: PV = 0 after every iteration (R221; 90_conflicts.md C2). -/
def execLdir (s : State) : Result :=
  let s1 := s.blockMove 1
  let s2 := s1.withCpu { s1.cpu with f := blockFlags s1.cpu.f false }
  if s2.cpu.bc ≠ 0 then .next ((s2.setPc (s2.cpu.pc - 2)).charge (cost s.cfg.cost .ldir))
  else .next (s2.charge (costNotTaken s.cfg.cost .ldir))

/-- `LDDR`: PV = 1 while bytes remain (R222). -/
def execLddr (s : State) : Result :=
  let s1 := s.blockMove (-1)
  let s2 := s1.withCpu { s1.cpu with f := blockFlags s1.cpu.f (s1.cpu.bc != 0) }
  if s2.cpu.bc ≠ 0 then .next ((s2.setPc (s2.cpu.pc - 2)).charge (cost s.cfg.cost .lddr))
  else .next (s2.charge (costNotTaken s.cfg.cost .lddr))

end Sys2Proof.Machine
end

