-- ==== Sys2Proof/Machine/Jumps.lean ====
section
/-! DEFINITION. Jumps (41_jumps.md). `PC` is the address after the instruction's last byte, so a displacement is added
to it "*after* the displacement byte has been consumed". No jump writes a flag. -/

namespace Sys2Proof.Machine

/-- `PC <- PC + sext_8(d)` (R150). -/
def State.jumpRel (s : State) (d : Byte) : State := s.setPc (s.cpu.pc + sext8 d)

/-- `JR e` (R150). -/
def execJr (d : Byte) (s : State) : Result :=
  .next ((s.jumpRel d).charge (cost s.cfg.cost (.jr d)))

/-- `JR cc,e` (R151). -/
def execJrCc (cc : Cond) (d : Byte) (s : State) : Result :=
  if condHolds s.cpu.f cc then .next ((s.jumpRel d).charge (cost s.cfg.cost (.jrCc cc d)))
  else .next (s.charge (costNotTaken s.cfg.cost (.jrCc cc d)))

/-- `DJNZ e`: "decrements B first; branches only if the decremented value is nonzero" (R152). -/
def execDjnz (d : Byte) (s : State) : Result :=
  let s1 := s.withCpu { s.cpu with b := s.cpu.b - 1 }
  if s1.cpu.b ≠ 0 then .next ((s1.jumpRel d).charge (cost s.cfg.cost (.djnz d)))
  else .next (s1.charge (costNotTaken s.cfg.cost (.djnz d)))

/-- `JP nn` (R153). -/
def execJpNn (nn : Word) (s : State) : Result :=
  .next ((s.setPc nn).charge (cost s.cfg.cost (.jpNn nn)))

/-- `JP cc,nn` (R154). -/
def execJpCcNn (cc : Cond) (nn : Word) (s : State) : Result :=
  if condHolds s.cpu.f cc then .next ((s.setPc nn).charge (cost s.cfg.cost (.jpCcNn cc nn)))
  else .next (s.charge (costNotTaken s.cfg.cost (.jpCcNn cc nn)))

/-- `JP (HL)`: "the target is the value of `HL`" (R155). -/
def execJpHl (s : State) : Result :=
  .next ((s.setPc s.cpu.hl).charge (cost s.cfg.cost .jpHl))

end Sys2Proof.Machine
end

