-- ==== Sys2Proof/Machine/Loads.lean ====
section
/-! DEFINITION. Load and exchange instructions (40_loads.md). In every meaning `PC` already points after the
instruction's last byte (10_state.md R24), and no load writes a flag. -/

namespace Sys2Proof.Machine

/-- `LD dd,nn`: `rp[p] <- nn` (R120). -/
def execLdDdNn (dd : RegPair) (nn : Word) (s : State) : Result :=
  .next ((s.withCpu (s.cpu.setPair dd nn)).charge (cost s.cfg.cost (.ldDdNn dd nn)))

/-- `LD IX,nn` (R135). -/
def execLdIxNn (nn : Word) (s : State) : Result :=
  .next ((s.withCpu { s.cpu with ix := nn }).charge (cost s.cfg.cost (.ldIxNn nn)))

/-- `LD IY,nn` (R136). -/
def execLdIyNn (nn : Word) (s : State) : Result :=
  .next ((s.withCpu { s.cpu with iy := nn }).charge (cost s.cfg.cost (.ldIyNn nn)))

/-- `LD r,r'`: `r[y] <- r[z]` (R121). -/
def execLdRR (dst src : Reg) (s : State) : Result :=
  .next ((s.withCpu (s.cpu.setReg dst (s.cpu.reg src))).charge (cost s.cfg.cost (.ldRR dst src)))

/-- `LD r,n` (R122). -/
def execLdRN (dst : Reg) (n : Byte) (s : State) : Result :=
  .next ((s.withCpu (s.cpu.setReg dst n)).charge (cost s.cfg.cost (.ldRN dst n)))

/-- `LD r,(HL)`: read with the old `HL` (R123). -/
def execLdRHl (dst : Reg) (s : State) : Result :=
  .next ((s.withCpu (s.cpu.setReg dst s.readHl)).charge (cost s.cfg.cost (.ldRHl dst)))

/-- `LD (HL),r` (R124). -/
def execLdHlR (src : Reg) (s : State) : Result :=
  .next ((s.writeHl (s.cpu.reg src)).charge (cost s.cfg.cost (.ldHlR src)))

/-- `LD (HL),n` (R125). -/
def execLdHlN (n : Byte) (s : State) : Result :=
  .next ((s.writeHl n).charge (cost s.cfg.cost (.ldHlN n)))

/-- `LD A,(BC)` (R126). -/
def execLdABc (s : State) : Result :=
  .next ((s.withCpu { s.cpu with a := s.memRead s.cpu.bc }).charge (cost s.cfg.cost .ldABc))

/-- `LD A,(DE)` (R127). -/
def execLdADe (s : State) : Result :=
  .next ((s.withCpu { s.cpu with a := s.memRead s.cpu.de }).charge (cost s.cfg.cost .ldADe))

/-- `LD A,(nn)` (R128). -/
def execLdANn (nn : Word) (s : State) : Result :=
  .next ((s.withCpu { s.cpu with a := s.memRead nn }).charge (cost s.cfg.cost (.ldANn nn)))

/-- `LD (BC),A` (R129). -/
def execLdBcA (s : State) : Result :=
  .next ((s.memWrite s.cpu.bc s.cpu.a).charge (cost s.cfg.cost .ldBcA))

/-- `LD (DE),A` (R130). -/
def execLdDeA (s : State) : Result :=
  .next ((s.memWrite s.cpu.de s.cpu.a).charge (cost s.cfg.cost .ldDeA))

/-- `LD (nn),A` (R131). -/
def execLdNnA (nn : Word) (s : State) : Result :=
  .next ((s.memWrite nn s.cpu.a).charge (cost s.cfg.cost (.ldNnA nn)))

/-- `LD HL,(nn)`: `HL <- MemRead(nn, 2)` (R132). -/
def execLdHlNn (nn : Word) (s : State) : Result :=
  .next ((s.withCpu (s.cpu.setHl (s.memRead16 nn))).charge (cost s.cfg.cost (.ldHlNn nn)))

/-- `LD (nn),HL`: `MemWrite(nn, 2, HL)` (R133). -/
def execLdNnHl (nn : Word) (s : State) : Result :=
  .next ((s.memWrite16 nn s.cpu.hl).charge (cost s.cfg.cost (.ldNnHl nn)))

/-- `LD SP,HL` (R134). -/
def execLdSpHl (s : State) : Result :=
  .next ((s.withCpu { s.cpu with sp := s.cpu.hl }).charge (cost s.cfg.cost .ldSpHl))

/-- `EX DE,HL` (R140). -/
def execExDeHl (s : State) : Result :=
  .next ((s.withCpu ((s.cpu.setDe s.cpu.hl).setHl s.cpu.de)).charge (cost s.cfg.cost .exDeHl))

/-- `EX AF,AF'` (R141). -/
def execExAfAf (s : State) : Result :=
  .next ((s.withCpu { s.cpu with a := s.cpu.a_, f := s.cpu.f_, a_ := s.cpu.a, f_ := s.cpu.f }).charge (cost s.cfg.cost .exAfAf))

/-- `EXX`: `A`, `F` and their shadows are not touched (R142). -/
def execExx (s : State) : Result :=
  .next ((s.withCpu
    { s.cpu with
      b := s.cpu.b_, c := s.cpu.c_, d := s.cpu.d_, e := s.cpu.e_, h := s.cpu.h_, l := s.cpu.l_
      b_ := s.cpu.b, c_ := s.cpu.c, d_ := s.cpu.d, e_ := s.cpu.e, h_ := s.cpu.h, l_ := s.cpu.l }).charge (cost s.cfg.cost .exx))

end Sys2Proof.Machine
end

