-- ==== Sys2Proof/Machine/Rotate.lean ====
section
/-! DEFINITION. The CB page: rotates, shifts, bit test, bit reset, bit set (46_bit_rotate.md). The operand is a
register or the byte at `HL`, read and then written back; "with `HL` in ROM the flags are still computed from the
would-be result and the byte stays" (R260). -/

namespace Sys2Proof.Machine

/-- Write back a rotated or shifted register, with the flags of R268. -/
def State.rotateReg (s : State) (r : Reg) (out : Byte × Bool) : State :=
  s.withCpu { s.cpu.setReg r out.1 with f := rotateFlags out.1 out.2 }

/-- Write back a rotated or shifted byte at `HL`, with the flags of R268. -/
def State.rotateHl (s : State) (out : Byte × Bool) : State :=
  let s1 := s.writeHl out.1
  s1.withCpu { s1.cpu with f := rotateFlags out.1 out.2 }

/-- `RLC r` (R261). -/
def execRlcR (r : Reg) (s : State) : Result :=
  .next ((s.rotateReg r (rlc8 (s.cpu.reg r))).charge (cost s.cfg.cost (.rlcR r)))

/-- `RLC (HL)` (R261). -/
def execRlcHl (s : State) : Result :=
  .next ((s.rotateHl (rlc8 s.readHl)).charge (cost s.cfg.cost .rlcHl))

/-- `RRC r` (R262). -/
def execRrcR (r : Reg) (s : State) : Result :=
  .next ((s.rotateReg r (rrc8 (s.cpu.reg r))).charge (cost s.cfg.cost (.rrcR r)))

/-- `RRC (HL)` (R262). -/
def execRrcHl (s : State) : Result :=
  .next ((s.rotateHl (rrc8 s.readHl)).charge (cost s.cfg.cost .rrcHl))

/-- `RL r` (R263). -/
def execRlR (r : Reg) (s : State) : Result :=
  .next ((s.rotateReg r (rl8 (s.cpu.reg r) (flagC s.cpu.f))).charge (cost s.cfg.cost (.rlR r)))

/-- `RL (HL)` (R263). -/
def execRlHl (s : State) : Result :=
  .next ((s.rotateHl (rl8 s.readHl (flagC s.cpu.f))).charge (cost s.cfg.cost .rlHl))

/-- `RR r` (R264). -/
def execRrR (r : Reg) (s : State) : Result :=
  .next ((s.rotateReg r (rr8 (s.cpu.reg r) (flagC s.cpu.f))).charge (cost s.cfg.cost (.rrR r)))

/-- `RR (HL)` (R264). -/
def execRrHl (s : State) : Result :=
  .next ((s.rotateHl (rr8 s.readHl (flagC s.cpu.f))).charge (cost s.cfg.cost .rrHl))

/-- `SLA r` (R265). -/
def execSlaR (r : Reg) (s : State) : Result :=
  .next ((s.rotateReg r (sla8 (s.cpu.reg r))).charge (cost s.cfg.cost (.slaR r)))

/-- `SLA (HL)` (R265). -/
def execSlaHl (s : State) : Result :=
  .next ((s.rotateHl (sla8 s.readHl)).charge (cost s.cfg.cost .slaHl))

/-- `SRA r` (R266). -/
def execSraR (r : Reg) (s : State) : Result :=
  .next ((s.rotateReg r (sra8 (s.cpu.reg r))).charge (cost s.cfg.cost (.sraR r)))

/-- `SRA (HL)` (R266). -/
def execSraHl (s : State) : Result :=
  .next ((s.rotateHl (sra8 s.readHl)).charge (cost s.cfg.cost .sraHl))

/-- `SRL r` (R267). -/
def execSrlR (r : Reg) (s : State) : Result :=
  .next ((s.rotateReg r (srl8 (s.cpu.reg r))).charge (cost s.cfg.cost (.srlR r)))

/-- `SRL (HL)` (R267). -/
def execSrlHl (s : State) : Result :=
  .next ((s.rotateHl (srl8 s.readHl)).charge (cost s.cfg.cost .srlHl))

/-- `BIT b,r`: nothing but flags is written (R270). -/
def execBitR (b : BitVec 3) (r : Reg) (s : State) : Result :=
  .next ((s.withCpu { s.cpu with f := bitFlags s.cpu.f (s.cpu.reg r) b }).charge (cost s.cfg.cost (.bitR b r)))

/-- `BIT b,(HL)`: one read, no write (R270). -/
def execBitHl (b : BitVec 3) (s : State) : Result :=
  .next ((s.withCpu { s.cpu with f := bitFlags s.cpu.f s.readHl b }).charge (cost s.cfg.cost (.bitHl b)))

/-- `RES b,r` (R271). -/
def execResR (b : BitVec 3) (r : Reg) (s : State) : Result :=
  .next ((s.withCpu (s.cpu.setReg r (s.cpu.reg r &&& ~~~bitMask b))).charge (cost s.cfg.cost (.resR b r)))

/-- `RES b,(HL)` (R271). -/
def execResHl (b : BitVec 3) (s : State) : Result :=
  .next ((s.writeHl (s.readHl &&& ~~~bitMask b)).charge (cost s.cfg.cost (.resHl b)))

/-- `SET b,r` (R272). -/
def execSetR (b : BitVec 3) (r : Reg) (s : State) : Result :=
  .next ((s.withCpu (s.cpu.setReg r (s.cpu.reg r ||| bitMask b))).charge (cost s.cfg.cost (.setR b r)))

/-- `SET b,(HL)` (R272). -/
def execSetHl (b : BitVec 3) (s : State) : Result :=
  .next ((s.writeHl (s.readHl ||| bitMask b)).charge (cost s.cfg.cost (.setHl b)))

end Sys2Proof.Machine
end

