-- ==== Sys2Proof/Machine/Stack.lean ====
section
/-! DEFINITION. Stack, calls and returns (45_stack_calls.md). -/

namespace Sys2Proof.Machine

/-- `PUSH qq` (R232). -/
def execPushQq (qq : StackPair) (s : State) : Result :=
  .next ((s.push16 (s.cpu.stackPair qq)).charge (cost s.cfg.cost (.pushQq qq)))

/-- `POP qq`: `POP AF` replaces all eight flag bits (R233). -/
def execPopQq (qq : StackPair) (s : State) : Result :=
  let s1 := s.dropStack
  .next ((s1.withCpu (s1.cpu.setStackPair qq s.stackTop)).charge (cost s.cfg.cost (.popQq qq)))

/-- `PUSH IX` (R234). -/
def execPushIx (s : State) : Result :=
  .next ((s.push16 s.cpu.ix).charge (cost s.cfg.cost .pushIx))

/-- `PUSH IY` (R235). -/
def execPushIy (s : State) : Result :=
  .next ((s.push16 s.cpu.iy).charge (cost s.cfg.cost .pushIy))

/-- `POP IX` (R236). -/
def execPopIx (s : State) : Result :=
  let s1 := s.dropStack
  .next ((s1.withCpu { s1.cpu with ix := s.stackTop }).charge (cost s.cfg.cost .popIx))

/-- `POP IY` (R237). -/
def execPopIy (s : State) : Result :=
  let s1 := s.dropStack
  .next ((s1.withCpu { s1.cpu with iy := s.stackTop }).charge (cost s.cfg.cost .popIy))

/-- `EX (SP),HL`: `t <- MemRead(SP, 2); MemWrite(SP, 2, HL); HL <- t` (R238). -/
def execExSpHl (s : State) : Result :=
  let s1 := s.memWrite16 s.cpu.sp s.cpu.hl
  .next ((s1.withCpu (s1.cpu.setHl s.stackTop)).charge (cost s.cfg.cost .exSpHl))

/-- `CALL nn` (R240). -/
def execCallNn (nn : Word) (s : State) : Result :=
  .next ((s.call nn).charge (cost s.cfg.cost (.callNn nn)))

/-- `CALL cc,nn` (R241). -/
def execCallCcNn (cc : Cond) (nn : Word) (s : State) : Result :=
  if condHolds s.cpu.f cc then .next ((s.call nn).charge (cost s.cfg.cost (.callCcNn cc nn)))
  else .next (s.charge (costNotTaken s.cfg.cost (.callCcNn cc nn)))

/-- `RET` (R242). -/
def execRet (s : State) : Result :=
  .next (s.ret.charge (cost s.cfg.cost .ret))

/-- `RET cc` (R243). -/
def execRetCc (cc : Cond) (s : State) : Result :=
  if condHolds s.cpu.f cc then .next (s.ret.charge (cost s.cfg.cost (.retCc cc)))
  else .next (s.charge (costNotTaken s.cfg.cost (.retCc cc)))

/-- `RETI`: "it is `RET` with another encoding" (R244). -/
def execReti (s : State) : Result :=
  .next (s.ret.charge (cost s.cfg.cost .reti))

/-- `RST p`: "a one-byte call to a fixed address" (R245). -/
def execRst (p : Byte) (s : State) : Result :=
  .next ((s.call (p.zeroExtend 16)).charge (cost s.cfg.cost (.rst p)))

/-- `RETN`: `PC <- Pop16(); IFF1 <- IFF2` (R246). -/
def execRetn (s : State) : Result :=
  let s1 := s.ret
  .next ((s1.withCpu { s1.cpu with iff1 := s1.cpu.iff2 }).charge (cost s.cfg.cost .retn))

end Sys2Proof.Machine
end

