-- ==== Sys2Proof/Machine/System.lean ====
section
/-! DEFINITION. Port input and output, and the system instructions (47_io_system.md). -/

namespace Sys2Proof.Machine

/-- `IN A,(n)`: the port is `{A, n}` (R290). -/
def execInAN (n : Byte) (s : State) : Result :=
  .next ((s.withCpu { s.cpu with a := s.bus.portIn (mkWord s.cpu.a n) }).charge (cost s.cfg.cost (.inAN n)))

/-- `OUT (n),A` (R291). -/
def execOutNA (n : Byte) (s : State) : Result :=
  .next (State.charge { s with bus := s.bus.portOut (mkWord s.cpu.a n) s.cpu.a } (cost s.cfg.cost (.outNA n)))

/-- `NOP` (R295). -/
def execNop (s : State) : Result :=
  .next (s.charge (cost s.cfg.cost .nop))

/-- `HALT`: `HALTED <- 1`; `PC` stays at the address after it (R296). -/
def execHalt (s : State) : Result :=
  .next ((s.withCpu { s.cpu with halted := true }).charge (cost s.cfg.cost .halt))

/-- `IFF1 <- v; IFF2 <- v`, at once (R297, R298). -/
def State.setIff (s : State) (v : Bool) : State := s.withCpu { s.cpu with iff1 := v, iff2 := v }

/-- `DI` (R297). -/
def execDi (s : State) : Result :=
  .next ((s.setIff false).charge (cost s.cfg.cost .di))

/-- `EI`: "there is no one-instruction delay" (R298). -/
def execEi (s : State) : Result :=
  .next ((s.setIff true).charge (cost s.cfg.cost .ei))

/-- `IM 0`: storage only (R299). -/
def execIm0 (s : State) : Result :=
  .next ((s.withCpu { s.cpu with im := .im0 }).charge (cost s.cfg.cost .im0))

/-- `IM 1`: storage only (R299). -/
def execIm1 (s : State) : Result :=
  .next ((s.withCpu { s.cpu with im := .im1 }).charge (cost s.cfg.cost .im1))

/-- `IM 2`: storage only (R299). -/
def execIm2 (s : State) : Result :=
  .next ((s.withCpu { s.cpu with im := .im2 }).charge (cost s.cfg.cost .im2))

/-- `LD I,A` (R300). -/
def execLdIA (s : State) : Result :=
  .next ((s.withCpu { s.cpu with i := s.cpu.a }).charge (cost s.cfg.cost .ldIA))

/-- `LD R,A`: all 8 bits, after this instruction's own fetch increments (R301). -/
def execLdRA (s : State) : Result :=
  .next ((s.withCpu { s.cpu with r := s.cpu.a }).charge (cost s.cfg.cost .ldRA))

/-- `A <- v` with the flags of R302. -/
def State.loadSpecial (s : State) (v : Byte) : State :=
  s.withCpu { s.cpu with a := v, f := loadSpecialFlags v s.cpu.f s.cpu.iff2 }

/-- `LD A,I` (R302). -/
def execLdAI (s : State) : Result :=
  .next ((s.loadSpecial s.cpu.i).charge (cost s.cfg.cost .ldAI))

/-- `LD A,R`: `R` already includes this instruction's two fetch increments (R303); under R_POLICY = any its low
seven bits are a free value. -/
def execLdAR (s : State) : Result :=
  .next ((s.readR.2.loadSpecial s.readR.1).charge (cost s.cfg.cost .ldAR))

end Sys2Proof.Machine
end

