-- ==== Sys2Proof/Machine/Tape.lean ====
section
/-! DEFINITION. TapeLoader (60_exceptions.md R351 to R357): the container, the fast-load trap, autotype. -/

namespace Sys2Proof.Machine

/-- `parse(raw)` (R351), `fuel` being at least the number of blocks: "malformed length-prefixes stop parsing
silently at the last complete block". -/
def parseTapeFuel : Nat → List Byte → List (List Byte)
  | 0, _ => []
  | fuel + 1, lo :: hi :: rest =>
    let n := (mkWord hi lo).toNat
    if rest.length < n then [] else rest.take n :: parseTapeFuel fuel (rest.drop n)
  | _ + 1, _ => []

/-- `parse(raw)` (R351). Each block takes at least two bytes, so the length of `raw` is fuel enough. -/
def parseTape (raw : List Byte) : List (List Byte) := parseTapeFuel raw.length raw

/-- `for i in 0 .. n-1: MemWrite(addr + i, 1, data[i])`: ROM bytes dropped, addresses wrap (R354, R355). -/
def Memory.writeBytes (m : Memory) (addr : Word) : List Byte → Memory
  | [] => m
  | v :: vs => (m.write addr v).writeBytes (addr + 1) vs

/-- The data of the next unconsumed block when its flag byte is the one asked for; `none` on a mismatch, an empty
block or an exhausted tape (R354, R355). -/
def State.tapeMatch (s : State) : Option (List Byte) :=
  match s.tape.blocks[s.tape.pos]? with
  | some (flag :: data) => if flag = s.cpu.a then some data else none
  | _ => none

/-- `performFastLoad()` (R354), without TRAP_COST. On a match, `F.C = 1` copies `min(DE, len(blk) - 1)` bytes to
`IX`, `F.C = 0` is verify mode and copies nothing; then `F.C` tells success and the routine's `RET` is done. -/
def State.performFastLoad (s : State) : State :=
  match s.tapeMatch with
  | some data =>
    let s1 :=
      if flagC s.cpu.f then { s with mem := s.mem.writeBytes s.cpu.ix (data.take s.cpu.de.toNat) } else s
    let s2 := { s1 with tape := { s1.tape with pos := s1.tape.pos + 1 } }
    (s2.withCpu { s2.cpu with f := withCarry s2.cpu.f true }).ret
  | none => (s.withCpu { s.cpu with f := withCarry s.cpu.f false }).ret

/-- The trap condition (R353), tested with `FAULT = none` at every boundary at which a step is about to be made. -/
def State.trapArmed (s : State) : Bool :=
  s.cpu.fault.isNone && s.tape.playing && s.cpu.pc == s.cfg.ldBytesEntry

/-! ## Keys and autotype -/

/-- `setKey(row, bit)` clears `KB[row][bit]` (pressed), `clearKey` sets it (20_memory.md R73). -/
def Bus.setKeyBit (bus : Bus) (row bit : Fin 8) (pressed : Bool) : Bus :=
  let mask : Byte := 1#8 <<< bit.val
  let old := bus.kb[row]
  { bus with kb := bus.kb.set row (if pressed then old &&& ~~~mask else old ||| mask) }

/-- The script's events of one frame, "exactly as the host's `setKey`/`clearKey` would" (R357). -/
def applyKeyEvents (bus : Bus) (frame : Nat) (script : List KeyEvent) : Bus :=
  script.foldl (fun bus ev => if ev.frame = frame then bus.setKeyBit ev.row ev.bit ev.press else bus) bus

/-- Autotype at a frame end (R357; notes/assumptions/11.md): the events of this frame, counted from 1 since arming;
when no frame is left, `TAPE_PLAYING <- true`. -/
def State.autotypeStep (s : State) : State :=
  match s.tape.autotype with
  | .idle => s
  | .armed n =>
    let bus := applyKeyEvents s.bus (s.cfg.autotypeFrames - n + 1) s.cfg.autotypeScript
    if n ≤ 1 then { s with bus := bus, tape := { s.tape with autotype := .idle, playing := true } }
    else { s with bus := bus, tape := { s.tape with autotype := .armed (n - 1) } }

/-- Arm autotype; with 0 frames it has finished at once (R352, R357). -/
def State.armAutotype (s : State) : State :=
  if s.cfg.autotypeFrames = 0 then { s with tape := { s.tape with autotype := .idle, playing := true } }
  else { s with tape := { s.tape with autotype := .armed s.cfg.autotypeFrames } }

end Sys2Proof.Machine
end

