-- ==== Sys2Proof/Machine/Cpu.lean ====
section
/-! DEFINITION. One step: CpuStep (30_encoding.md R91, R92) and MachineStep (60_exceptions.md R339). -/

namespace Sys2Proof.Machine

/-- The four bytes at `PC`, as many as the longest instruction has (R90); addresses wrap (10_state.md R24). -/
def State.window (s : State) : List Byte :=
  [s.memRead s.cpu.pc, s.memRead (s.cpu.pc + 1), s.memRead (s.cpu.pc + 2), s.memRead (s.cpu.pc + 3)]

/-- The instruction at `PC`, or why there is none. -/
def State.decodeNext (s : State) : Except DecodeError Instr :=
  match decode s.window with
  | .ok (i, _) => .ok i
  | .error e => .error e

/-- What fetching all bytes of an instruction leaves (R91, R92): `PC` after its last byte, R advanced once per
`FetchOp()`. -/
def State.fetched (s : State) (i : Instr) : State :=
  let s1 := s.setPc (s.cpu.pc + BitVec.ofNat 16 i.length)
  if i.opcodeBytes = 2 then s1.fetchR.fetchR else s1.fetchR

/-- One tick of a halted CPU: "no fetch, no memory access, `PC` unchanged" (47_io_system.md R296). -/
def State.haltedTick (s : State) : State := s.advanceR.charge s.cfg.haltCost

/-- `CpuStep()` (R91). -/
def cpuStep (s : State) : Result :=
  if s.cpu.fault.isSome then .next s
  else if s.cpu.halted then .next s.haltedTick
  else
    match s.decodeNext with
    | .ok i => exec i (s.fetched i)
    | .error e => .next (s.raiseUnrecognised e.key)

/-- `MachineStep()` (60_exceptions.md R339): the tape trap if armed, else CpuStep. -/
def machineStep (s : State) : Result :=
  if s.trapArmed then .next (s.performFastLoad.charge s.cfg.trapCost) else cpuStep s

/-- Put bytes at an address and on, ROM protection bypassed, as a load from outside does (20_memory.md R83). -/
def Memory.place (m : Memory) (addr : Word) : List Byte → Memory
  | [] => m
  | v :: vs => (m.set addr.toNat v).place (addr + 1) vs

/-- Make the next MachineStep fetch and run `bytes`: they are placed at `PC`, and what would keep the step from
fetching there is cleared, the fault latch, HALTED, and TAPE_PLAYING where `PC` is the trap address. -/
def State.withProgramBytes (s : State) (bytes : List Byte) : State :=
  { s with
    mem := s.mem.place s.cpu.pc bytes
    cpu := { s.cpu with fault := none, halted := false }
    tape := { s.tape with playing := s.tape.playing && s.cpu.pc != s.cfg.ldBytesEntry } }

end Sys2Proof.Machine
end

