-- ==== Sys2Proof/Machine/Step.lean ====
section
/-! DEFINITION. The step of the machine, and a program word placed where it fetches. -/

namespace Sys2Proof.Machine

/-- One step: MachineStep, "what "one step of the machine" means wherever the frame loop or the host steps"
(60_exceptions.md R339; notes/assumptions/4.md). -/
def step (s : State) : Host.Outcome State Fault Refusal := machineStep s

/-- The state with the instruction of an opcode-table word at `PC`, so that the next step runs it (notes/assumptions/5.md).
The bytes above `nbits`, up to the longest instruction, are zeros. -/
def State.withFetchWord (s : State) (nbits w : Nat) : State :=
  s.withProgramBytes ((tableWordBytes nbits w ++ [0, 0, 0]).take 4)

end Sys2Proof.Machine
end

