-- ==== Sys2Proof/Machine/Reset.lean ====
section
/-! DEFINITION. The reset sequence (70_reset_and_hazards.md R400; 10_state.md R44). -/

namespace Sys2Proof.Machine

/-- The ROM region, kept across reset (20_memory.md R83). -/
def Memory.romPart (m : Memory) : Memory := m.filter fun cell => decide (cell.1 < romSize)

/-- RAM filled with noise: each byte the free value of its address (notes/assumptions/6.md). -/
def noiseRam (draw : Nat) : Memory :=
  (List.range' romSize (memSize - romSize)).filterMap fun a =>
    if Config.freeByte draw a = Memory.unlisted then none else some (a, Config.freeByte draw a)

/-- `MEM` after a reset (R400): ROM kept; RAM noise, or 0x00 in the deterministic test mode. -/
def Memory.afterReset (m : Memory) (mode : RamResetMode) (draw : Nat) : Memory :=
  match mode with
  | .zero => m.romPart
  | .noise => m.romPart ++ noiseRam draw

/-- The CPU after a reset (R400). The registers the spec gives "any value" hold free values, or, in the
deterministic test mode, 0 and `SP` 0xFFFF. -/
def Cpu.afterReset (mode : RamResetMode) (draw : Nat) : Cpu :=
  let any (slot : Nat) : Byte := match mode with | .zero => 0 | .noise => Config.freeByte draw slot
  { a := any 0, f := any 1, b := any 2, c := any 3, d := any 4, e := any 5, h := any 6, l := any 7
    a_ := any 8, f_ := any 9, b_ := any 10, c_ := any 11, d_ := any 12, e_ := any 13, h_ := any 14, l_ := any 15
    ix := mkWord (any 16) (any 17), iy := mkWord (any 18) (any 19)
    sp := match mode with | .zero => 0xFFFF | .noise => mkWord (Config.freeByte draw 20) (Config.freeByte draw 21)
    pc := 0x0000, i := 0, r := 0, iff1 := false, iff2 := false, im := .im0, halted := false
    fault := none, tstates := 0 }

/-- `Reset()` (R400): KB, FRAME, BREAKPOINTS and the tape are kept; "`Running` if it was `Running` or
`Paused`". AUTOTYPE is kept with the tape (notes/assumptions/12.md). -/
def State.restart (s : State) : State :=
  let mode := s.cfg.ramResetMode
  { s with
    cpu := Cpu.afterReset mode s.free
    mem := s.mem.afterReset mode s.free
    bus := { s.bus with border := match mode with
      | .zero => 0
      | .noise => (Config.freeByte s.free 22).extractLsb' 0 3 }
    video := { s.video with flash := false, frameCount := 0 }
    sched := { s.sched with
      mode := match s.sched.mode with
        | .stopped => .stopped
        | .running => .running
        | .paused => .running
      line := 0, target := none }
    free := match mode with | .zero => s.free | .noise => s.free + 1 }

end Sys2Proof.Machine
end

