-- ==== Sys2Proof/Machine/Video.lean ====
section
/-! DEFINITION. VideoGenerator (60_exceptions.md R345 to R349). -/

namespace Sys2Proof.Machine

/-- `BitmapAddr(y, col)` (R346): `y[7:6]`, `y[2:0]`, `y[5:3]` and `col` make up the offset. -/
def bitmapAddr (c : Config) (y col : Nat) : Word :=
  c.bitmapBase + BitVec.ofNat 16 ((y &&& 0xC0) <<< 5 + (y &&& 0x07) <<< 8 + (y &&& 0x38) <<< 2 + col)

/-- `AttrAddr(y, col)` (R346). -/
def attrAddr (c : Config) (y col : Nat) : Word :=
  c.attrBase + BitVec.ofNat 16 ((y / 8) * 32 + col)

/-- `attr[2:0] + 8 * attr[6]` (R345). -/
def inkOf (attr : Byte) : Pixel := BitVec.ofBool (attr.getLsbD 6) ++ attr.extractLsb' 0 3

/-- `attr[5:3] + 8 * attr[6]` (R345). -/
def paperOf (attr : Byte) : Pixel := BitVec.ofBool (attr.getLsbD 6) ++ attr.extractLsb' 3 3

/-- The eight pixels of a cell row (R345): bit 7 of the bitmap byte is leftmost, a set bit shows ink; with
`attr[7] = 1` and FLASH, ink and paper change places. -/
def cellPixels (bits attr : Byte) (flash : Bool) : List Pixel :=
  let swap := attr.getLsbD 7 && flash
  let ink := if swap then paperOf attr else inkOf attr
  let paper := if swap then inkOf attr else paperOf attr
  (List.range 8).map fun k => if bits.getLsbD (7 - k) then ink else paper

/-- BORDER "is shown as index 0..7 without bright" (R345). -/
def borderPixel (border : BitVec 3) : Pixel := border.zeroExtend 4

/-- The pixels of scanline `line` (R345). -/
def State.scanline (s : State) (line : Nat) : List Pixel :=
  let border := borderPixel s.bus.border
  if line < s.cfg.firstDisplayLine ∨ s.cfg.firstDisplayLine + s.cfg.displayLines ≤ line then
    List.replicate s.cfg.frameWidth border
  else
    let y := line - s.cfg.firstDisplayLine
    List.replicate s.cfg.borderLeft border ++
      (List.range bytesPerLine).flatMap (fun col =>
        cellPixels (s.memRead (bitmapAddr s.cfg y col)) (s.memRead (attrAddr s.cfg y col)) s.video.flash) ++
      List.replicate s.cfg.borderRight border

/-- `renderScanline(line)`: it "writes row `line` of `FRAME` ... and nothing else" (R345). -/
def State.renderScanline (s : State) (line : Nat) : State :=
  { s with video := { s.video with frame := s.video.frame.set line (s.scanline line) } }

/-- The presentation colour of a colour index, by the parameter `PALETTE` (R348). No machine state depends on it. -/
def colour (c : Config) (p : Pixel) : Rgb := c.palette[p.toNat]

end Sys2Proof.Machine
end

