-- ==== Sys2Proof/Machine/Sequencer.lean ====
section
/-! DEFINITION. MachineScheduler's frame loop (60_exceptions.md R338, R340, R344), one atomic action at a time. -/

namespace Sys2Proof.Machine

/-- The T-state target of the line in progress, "computed anew at each line from the current `TSTATES`" (R340). -/
def State.lineTarget (s : State) : Nat := s.sched.target.getD (s.cpu.tstates + s.cfg.tstatesPerLine)

/-- The end of `Frame()` (R340): the interrupt "if still running", FRAMECOUNT, FLASH every 16 frames, autotype
(R357); then line 0 again. -/
def State.endFrame (s : State) : State :=
  let s1 := if s.sched.mode = .running then s.interrupt else s
  let count := s1.video.frameCount + 1
  let s2 := { s1 with video := { s1.video with
    frameCount := count
    flash := if count % flashPeriod = 0 then !s1.video.flash else s1.video.flash } }
  let s3 := s2.autotypeStep
  { s3 with sched := { s3.sched with line := 0, target := none } }

/-- The end of a line: "`renderScanline(LINE)` -- always, also when Paused"; then the next line or the frame's
end (R340). -/
def State.endLine (s : State) : State :=
  let s1 := s.renderScanline s.sched.line
  if s.sched.line + 1 < s.cfg.linesPerFrame then
    { s1 with sched := { s1.sched with line := s.sched.line + 1, target := none } }
  else s1.endFrame

/-- The frame loop's next atomic action (R338, R340): nothing while Stopped; the line's end when not Running, when
faulted or when the budget is used up; a breakpoint hit, which pauses and ends the line; else one MachineStep. -/
def tick (s : State) : Result :=
  if s.sched.mode = .stopped then .next s
  else if s.sched.mode ≠ .running ∨ s.cpu.fault.isSome ∨ s.lineTarget ≤ s.cpu.tstates then .next s.endLine
  else if s.cpu.pc ∈ s.sched.breakpoints then
    .next (State.endLine { s with sched := { s.sched with mode := .paused } })
  else machineStep { s with sched := { s.sched with target := some s.lineTarget } }

end Sys2Proof.Machine
end

