-- ==== Sys2Proof/Machine/Control.lean ====
section
/-! DEFINITION. The host interface (60_exceptions.md R341 to R343, R360, R361; 20_memory.md R73, R75, R83): every way
the host changes or reads machine state. A request acts between two actions of the machine (notes/assumptions/10.md). -/

namespace Sys2Proof.Machine

/-! ## Breakpoints (R342), a set held as a strictly rising list -/

/-- Add an address. -/
def insertBreakpoint : List Word → Word → List Word
  | [], a => [a]
  | b :: bs, a =>
    if a.toNat < b.toNat then a :: b :: bs
    else if a = b then b :: bs
    else b :: insertBreakpoint bs a

/-- Remove an address. -/
def removeBreakpoint (bs : List Word) (a : Word) : List Word := bs.filter fun b => b != a

/-- Add it when absent, remove it when present. -/
def toggleBreakpoint (bs : List Word) (a : Word) : List Word :=
  if a ∈ bs then removeBreakpoint bs a else insertBreakpoint bs a

/-- The key at a matrix position, by the parameter `KEYMAP` (20_memory.md R73); bits without a key have none. -/
def keyAt (c : Config) (row bit : Fin 8) : Option String := c.keymap[row][bit.val]?

/-! ## Loading -/

/-- `loadRom(buf)` (20_memory.md R83): at most ROM_SIZE bytes, from address 0, past the ROM protection. -/
def State.loadRom (s : State) (buf : List Byte) : State :=
  { s with mem := s.mem.place 0 (buf.take romSize) }

/-- `loadImage(raw)` (R352): new tape, reset, autotype. -/
def State.loadImage (s : State) (raw : List Byte) : State :=
  let s1 := { s with tape := { s.tape with blocks := parseTape raw, pos := 0, playing := false } }
  s1.restart.armAutotype

/-! ## Requests (R360) -/

/-- The host's requests that change state. A missing ROM or tape resource is `none`: "machine state unchanged"
(20_memory.md R83), "nothing changes" (R352). -/
inductive Request where
  | start
  | pause
  | resume
  | stop
  | reset
  | hostStep
  | poke (addr : Word) (v : Byte)
  | addBreakpoint (addr : Word)
  | removeBreakpoint (addr : Word)
  | toggleBreakpoint (addr : Word)
  | setKey (row bit : Fin 8)
  | clearKey (row bit : Fin 8)
  | loadRom (buf : Option (List Byte))
  | loadImage (raw : Option (List Byte))
  deriving DecidableEq, Repr

/-- `start()`: only from Stopped (R341). -/
def Scheduler.start (c : Scheduler) : Scheduler :=
  if c.mode = .stopped then { c with mode := .running, line := 0, target := none } else c

/-- `pause()`: only from Running (R341). It ends the line's budget: the T-states of single-steps made before `resume()`
"are outside any line's budget" (R343), and "the first line after it gets a full budget" (R344; notes/assumptions/13.md). -/
def Scheduler.pause (c : Scheduler) : Scheduler :=
  if c.mode = .running then { c with mode := .paused, target := none } else c

/-- `resume()`: only from Paused, and not while a fault is latched (R341). -/
def Scheduler.resume (c : Scheduler) (faulted : Bool) : Scheduler :=
  if c.mode = .paused ∧ faulted = false then { c with mode := .running } else c

/-- `stop()` (R341). DESIGN CHOICE (notes/assumptions/21.md), unsafe for a claim about that request alone: from Stopped,
for which R341's table has no row, SCHED stays Stopped, with no other effect. -/
def Scheduler.stop (c : Scheduler) : Scheduler := { c with mode := .stopped, target := none }

/-- One request of the host (R360). -/
def hostAct (req : Request) (s : State) : Result :=
  match req with
  | .start => .next { s with sched := s.sched.start }
  | .pause => .next { s with sched := s.sched.pause }
  | .resume => .next { s with sched := s.sched.resume s.cpu.fault.isSome }
  | .stop => .next { s with sched := s.sched.stop }
  | .reset => .next s.restart
  | .hostStep => if s.sched.mode = .paused then machineStep s else .next s
  | .poke addr v => .next (s.memWrite addr v)
  | .addBreakpoint a => .next { s with sched := { s.sched with breakpoints := Machine.insertBreakpoint s.sched.breakpoints a } }
  | .removeBreakpoint a => .next { s with sched := { s.sched with breakpoints := Machine.removeBreakpoint s.sched.breakpoints a } }
  | .toggleBreakpoint a => .next { s with sched := { s.sched with breakpoints := Machine.toggleBreakpoint s.sched.breakpoints a } }
  | .setKey row bit => .next { s with bus := s.bus.setKeyBit row bit true }
  | .clearKey row bit => .next { s with bus := s.bus.setKeyBit row bit false }
  | .loadRom buf => .next (match buf with | some b => s.loadRom b | none => s)
  | .loadImage raw => .next (match raw with | some r => s.loadImage r | none => s)

/-! ## Reads (R360, R361): no machine state changes; the model's counter of free values may -/

/-- `peek(addr)`. -/
def peek (s : State) (addr : Word) : Byte := s.memRead addr

/-- `frame()`: "the current pixel buffer plus the current border-color index" (R349). -/
def frameBuffer (s : State) : List (List Pixel) × BitVec 3 := (s.video.frame, s.bus.border)

/-- The names of the debug surface (R361). -/
inductive RegName where
  | af | bc | de | hl | pc | sp | ix | iy | i | r | a | f | b | c | d | e | h | l
  deriving DecidableEq, Repr

/-- `readRegister(name)` (R361); an 8-bit value is zero-extended. It answers the state too: under R_POLICY = any, `R` reads
a free value in bits 6..0 (10_state.md R25), "arbitrary at every read", and the read counts the draw in `free`, the
model's own field, so that no later read or reset draws the same set (notes/assumptions/7.md). -/
def readRegister (s : State) : RegName → Word × State
  | .af => (s.cpu.af, s)
  | .bc => (s.cpu.bc, s)
  | .de => (s.cpu.de, s)
  | .hl => (s.cpu.hl, s)
  | .pc => (s.cpu.pc, s)
  | .sp => (s.cpu.sp, s)
  | .ix => (s.cpu.ix, s)
  | .iy => (s.cpu.iy, s)
  | .i => (s.cpu.i.zeroExtend 16, s)
  | .r => (s.readR.1.zeroExtend 16, s.readR.2)
  | .a => (s.cpu.a.zeroExtend 16, s)
  | .f => (s.cpu.f.zeroExtend 16, s)
  | .b => (s.cpu.b.zeroExtend 16, s)
  | .c => (s.cpu.c.zeroExtend 16, s)
  | .d => (s.cpu.d.zeroExtend 16, s)
  | .e => (s.cpu.e.zeroExtend 16, s)
  | .h => (s.cpu.h.zeroExtend 16, s)
  | .l => (s.cpu.l.zeroExtend 16, s)

end Sys2Proof.Machine
end

