-- ==== Sys2Proof/Machine/Notices.lean ====
section
/-! DEFINITION. What the machine tells the host: the breakpoint callback and the diagnostics (60_exceptions.md R321, R342,
R360; 20_memory.md R63). They are outputs, "no machine state"; a list for each action, in order, as a function of the
state the action starts from (notes/assumptions/15.md). -/

namespace Sys2Proof.Machine

/-- An output of the machine to the host. -/
inductive Notice where
  /-- The breakpoint callback, "exactly once per hit" (60_exceptions.md R342). -/
  | breakpointHit (addr : Word)
  /-- The diagnostic of an unrecognised opcode (60_exceptions.md R321). -/
  | unrecognised (what : UnrecognisedOpcode)
  /-- The diagnostic of a write dropped in ROM, "with `ROM_PROTECT = disallow`" (20_memory.md R63). -/
  | romWriteDropped (addr : Word)
  deriving DecidableEq, Repr

/-- The diagnostics of `MemWrite`s at these addresses, in this order: one for each that ROM drops (20_memory.md R63). -/
def droppedWrites (c : Config) (addrs : List Word) : List Notice :=
  (addrs.filter (romDiagnostic c)).map .romWriteDropped

/-- Where `Push16` writes: the high byte's address, then the low byte's (45_stack_calls.md R230). -/
def State.pushAddresses (s : State) : List Word := [s.cpu.sp - 1, s.cpu.sp - 2]

/-- Where an instruction writes memory, in its order (20_memory.md R67). -/
def storeAddresses (i : Instr) (s : State) : List Word :=
  match i with
  | .ldHlR _ | .ldHlN _ | .incHl | .decHl | .rlcHl | .rrcHl | .rlHl | .rrHl | .slaHl | .sraHl | .srlHl
  | .resHl _ | .setHl _ => [s.cpu.hl]
  | .ldBcA => [s.cpu.bc]
  | .ldDeA | .ldir | .lddr => [s.cpu.de]
  | .ldNnA nn => [nn]
  | .ldNnHl nn => [nn, nn + 1]
  | .exSpHl => [s.cpu.sp, s.cpu.sp + 1]
  | .pushQq _ | .pushIx | .pushIy | .callNn _ | .rst _ => s.pushAddresses
  | .callCcNn cc _ => if condHolds s.cpu.f cc then s.pushAddresses else []
  | .ldDdNn _ _ | .ldIxNn _ | .ldIyNn _ | .ldRR _ _ | .ldRN _ _ | .ldRHl _ | .ldABc | .ldADe | .ldANn _
  | .ldHlNn _ | .ldSpHl | .exDeHl | .exAfAf | .exx | .jr _ | .jrCc _ _ | .djnz _ | .jpNn _ | .jpCcNn _ _ | .jpHl
  | .addR _ | .addHl | .addN _ | .adcR _ | .adcHl | .adcN _ | .subR _ | .subHl | .subN _ | .sbcR _ | .sbcHl
  | .sbcN _ | .andR _ | .andHl | .andN _ | .xorR _ | .xorHl | .xorN _ | .orR _ | .orHl | .orN _ | .cpR _ | .cpHl
  | .cpN _ | .incR _ | .decR _ | .daa | .cpl | .scf | .ccf | .rlca | .rrca | .rla | .rra | .addHlSs _ | .incSs _
  | .decSs _ | .popQq _ | .popIx | .popIy | .ret | .retCc _ | .reti | .retn | .rlcR _ | .rrcR _ | .rlR _ | .rrR _
  | .slaR _ | .sraR _ | .srlR _ | .bitR _ _ | .bitHl _ | .resR _ _ | .setR _ _ | .inAN _ | .outNA _ | .nop | .halt
  | .di | .ei | .im0 | .im1 | .im2 | .ldIA | .ldRA | .ldAI | .ldAR => []

/-- Where the tape trap writes: the bytes it copies, from `IX` on (60_exceptions.md R354). -/
def State.trapAddresses (s : State) : List Word :=
  match s.tapeMatch with
  | some data =>
    if flagC s.cpu.f then (List.range (min s.cpu.de.toNat data.length)).map fun k => s.cpu.ix + BitVec.ofNat 16 k else []
  | none => []

/-- What a MachineStep tells the host. -/
def stepNotices (s : State) : List Notice :=
  if s.trapArmed then droppedWrites s.cfg s.trapAddresses
  else if s.cpu.fault.isSome || s.cpu.halted then []
  else
    match s.decodeNext with
    | .ok i => droppedWrites s.cfg (storeAddresses i s)
    | .error e => [.unrecognised { addr := s.cpu.pc, bytes := e.key }]

/-- What the frame interrupt tells the host: of its two pushed bytes, those that ROM drops. -/
def interruptNotices (s : State) : List Notice :=
  if s.cpu.fault ≠ none ∨ s.cpu.iff1 = false then [] else droppedWrites s.cfg s.pushAddresses

/-- What the end of a line tells the host: only the end of a running frame can tell anything. -/
def endLineNotices (s : State) : List Notice :=
  if s.sched.line + 1 < s.cfg.linesPerFrame ∨ s.sched.mode ≠ .running then [] else interruptNotices s

/-- What the frame loop's next action tells the host. The line that a breakpoint hit ends is no running one. -/
def tickNotices (s : State) : List Notice :=
  if s.sched.mode = .stopped then []
  else if s.sched.mode ≠ .running ∨ s.cpu.fault.isSome ∨ s.lineTarget ≤ s.cpu.tstates then endLineNotices s
  else if s.cpu.pc ∈ s.sched.breakpoints then [.breakpointHit s.cpu.pc]
  else stepNotices s

/-- What a host request tells the host. The ROM load "writes `MEM` directly, not through `MemWrite`" (20_memory.md R83). -/
def hostNotices (req : Request) (s : State) : List Notice :=
  match req with
  | .poke addr _ => droppedWrites s.cfg [addr]
  | .hostStep => if s.sched.mode = .paused then stepNotices s else []
  | .start | .pause | .resume | .stop | .reset | .addBreakpoint _ | .removeBreakpoint _ | .toggleBreakpoint _
  | .setKey _ _ | .clearKey _ _ | .loadRom _ | .loadImage _ => []

end Sys2Proof.Machine
end

