-- ==== Sys2Proof/Safety.lean ====
section
/-! DEFINITION. What claims call a safe state and a safe step. -/

namespace Sys2Proof.Machine

/-- The invariant of the machine: what every action keeps. -/
structure Inv (s : State) : Prop where
  /-- Memory is in canonical form and inside the 64 KiB address space (10_state.md R38). -/
  mem_wf : s.mem.wf
  /-- `TAPE_POS` "may equal the block count" and never passes it (10_state.md R41). -/
  tape_pos : s.tape.pos ≤ s.tape.blocks.length
  /-- A latched fault holds "one or two opcode bytes" (10_state.md R36). -/
  fault_bytes : ∀ u, s.cpu.fault = some u → u.bytes.length = 1 ∨ u.bytes.length = 2
  /-- `BREAKPOINTS` is a set, held strictly rising (10_state.md R42). -/
  breakpoints_rising : s.sched.breakpoints.Pairwise fun a b => a.toNat < b.toNat
  /-- `FRAME` has FRAME_H rows of FRAME_W pixels (10_state.md R40). -/
  frame_height : s.video.frame.length = s.cfg.frameHeight
  frame_width : ∀ row ∈ s.video.frame, row.length = s.cfg.frameWidth
  /-- `LINE` is 0..LINES_PER_FRAME - 1 (10_state.md R42). -/
  line_lt : s.sched.line < s.cfg.linesPerFrame
  /-- A line's budget is held only while it is being used up: Running, or Paused by a fault (60_exceptions.md R340,
  R343). -/
  target_held : s.sched.target ≠ none → s.sched.mode = .running ∨ (s.sched.mode = .paused ∧ s.cpu.fault ≠ none)
  /-- `IFF1 = IFF2` at every instruction boundary (45_stack_calls.md R246, its derived remark). -/
  iff_equal : s.cpu.iff1 = s.cpu.iff2
  /-- The parameters make sense (93_implementation_defined.md U16). -/
  cfg_valid : s.cfg.valid

/-- The outcome is a next state in which `P` holds. -/
def Result.nextSatisfies (out : Result) (P : State → Prop) : Prop := ∃ t, out = .next t ∧ P t

/-- A safe outcome: the machine goes on, in a state with the invariant. -/
def Result.safe (out : Result) : Prop := Result.nextSatisfies out Inv

/-- One action of the machine or of the host: MachineStep, the frame loop's next action, or a host request
(00_scope.md R3). -/
inductive Action where
  | step
  | tick
  | host (req : Request)

/-- Perform one action. -/
def act : Action → State → Result
  | .step, s => step s
  | .tick, s => tick s
  | .host req, s => hostAct req s

/-- What an action tells the host. -/
def actNotices : Action → State → List Notice
  | .step, s => stepNotices s
  | .tick, s => tickNotices s
  | .host req, s => hostNotices req s

end Sys2Proof.Machine
end

