-- ==== Sys2Proof/Certificates/Slice0/Obligations.lean ====
section
/-! DEFINITION. The statements for the provers. The words they share come first, in `Sys2Proof.Claim`; a statement's
docstring names the rule of spec/ it formalises. `x.toNat` of a byte or word is its unsigned value, `toInt` its two's
complement value. -/

namespace Sys2Proof.Claim

open Sys2Proof.Machine

/-- The byte with this value. -/
abbrev op (n : Nat) : Byte := BitVec.ofNat 8 n

/-- These bytes, whatever follows them, decode to `i` and to nothing more. -/
def decodesTo (bytes : List Byte) (i : Instr) : Prop := ∀ rest, decode (bytes ++ rest) = .ok (i, rest)

/-- The CPU `c` with the T-states of one instruction more: `cost` names its field of the parameter COST, which `s` carries. -/
abbrev after (s : State) (c : Cpu) (cost : CostTable → Nat) : Cpu := { c with tstates := c.tstates + cost s.cfg.cost }

/-- A field of COST has this value by default: the "Cost" line of an instruction rule (70_reset_and_hazards.md R425). -/
abbrev costs (cost : CostTable → Nat) (n : Nat) : Prop := cost Config.default.cost = n

/-- `exec i s` answers the state in which only the CPU has changed, to `c` with the T-states of `cost` more, which are `n`
by default. -/
def yields (i : Instr) (s : State) (c : Cpu) (cost : CostTable → Nat) (n : Nat) : Prop :=
  exec i s = .next { s with cpu := after s c cost } ∧ costs cost n

/-- `m` is the memory of `s` after a store of `v` at `x`: every byte but that one reads as before, and that one too
when it lies in ROM. -/
def storedOne (s : State) (m : Memory) (x : Word) (v : Byte) : Prop :=
  ∀ y : Word, m.read y.toNat = if y = x ∧ 16384 ≤ y.toNat then v else s.memRead y

/-- `m` is the memory of `s` after stores of `v` at `x` and `w` at `y`. -/
def storedTwo (s : State) (m : Memory) (x : Word) (v : Byte) (y : Word) (w : Byte) : Prop :=
  ∀ z : Word, m.read z.toNat =
    if z = x ∧ 16384 ≤ z.toNat then v else if z = y ∧ 16384 ≤ z.toNat then w else s.memRead z

/-- `exec i s` stores `v` at `x` and changes nothing else but the CPU, to `c` with the T-states of `cost` more, `n` by
default. -/
def stores (i : Instr) (s : State) (x : Word) (v : Byte) (c : Cpu) (cost : CostTable → Nat) (n : Nat) : Prop :=
  costs cost n ∧ ∃ m, exec i s = .next { s with mem := m, cpu := after s c cost } ∧ storedOne s m x v

/-- `exec i s` pushes `v` on the stack and changes nothing else but the CPU, to `c` (with `SP` 2 lower) with the T-states of
`cost` more, `n` by default. -/
def pushes (i : Instr) (s : State) (v : Word) (c : Cpu) (cost : CostTable → Nat) (n : Nat) : Prop :=
  costs cost n ∧ ∃ m,
    exec i s = .next { s with mem := m, cpu := { after s c cost with sp := s.cpu.sp - 2 } } ∧
    storedTwo s m (s.cpu.sp - 1) (hiByte v) (s.cpu.sp - 2) (loByte v)

/-- The word on top of the stack: low byte at `SP`, high byte at `SP + 1`. -/
def topWord (s : State) : Word := mkWord (s.memRead (s.cpu.sp + 1)) (s.memRead s.cpu.sp)

/-- The truth of a condition on `F` (30_encoding.md R96), from its bits 6, 0, 2, 7. -/
def condTrue (f : Byte) : Cond → Bool
  | .nz => !f.getLsbD 6
  | .z => f.getLsbD 6
  | .nc => !f.getLsbD 0
  | .c => f.getLsbD 0
  | .po => !f.getLsbD 2
  | .pe => f.getLsbD 2
  | .p => !f.getLsbD 7
  | .m => f.getLsbD 7

/-! ### Flags -/

/-- S, Z, Y, X of `f` are those of the result `res` (10_state.md R29, `szxy`). -/
def resultBits (res f : Byte) : Prop :=
  flagS f = decide (128 ≤ res.toNat) ∧ flagZ f = decide (res.toNat = 0) ∧
    flagY f = res.getLsbD 5 ∧ flagX f = res.getLsbD 3

/-- The number of 1 bits of a byte. -/
def popcount (v : Byte) : Nat := ((List.range 8).filter fun k => v.getLsbD k).length

/-- `res` and `f` are the sum `a + b + cin` and its flags: carry out of bits 7 and 3, signed overflow. -/
def addition (a b : Byte) (cin : Bool) (res f : Byte) : Prop :=
  let k := if cin then 1 else 0
  res.toNat = (a.toNat + b.toNat + k) % 256 ∧ resultBits res f ∧
    flagH f = decide (16 ≤ a.toNat % 16 + b.toNat % 16 + k) ∧
    flagPV f = decide (a.toInt + b.toInt + k < -128 ∨ 127 < a.toInt + b.toInt + k) ∧
    flagN f = false ∧ flagC f = decide (256 ≤ a.toNat + b.toNat + k)

/-- `res` and `f` are the difference `a - b - cin` and its flags: borrow, half borrow, signed overflow. -/
def subtraction (a b : Byte) (cin : Bool) (res f : Byte) : Prop :=
  let k := if cin then 1 else 0
  res.toNat = (256 + a.toNat - b.toNat - k) % 256 ∧ resultBits res f ∧
    flagH f = decide (a.toNat % 16 < b.toNat % 16 + k) ∧
    flagPV f = decide (a.toInt - b.toInt - k < -128 ∨ 127 < a.toInt - b.toInt - k) ∧
    flagN f = true ∧ flagC f = decide (a.toNat < b.toNat + k)

/-- `f` are the flags of a logic operation with result `res`: parity, N = 0, C = 0, H as given. -/
def logicalFlags (res f : Byte) (h : Bool) : Prop :=
  resultBits res f ∧ flagH f = h ∧ flagPV f = decide (popcount res % 2 = 0) ∧ flagN f = false ∧ flagC f = false

/-- The three source forms of an accumulator operation (42_alu8.md R170): encodings from row `y` of `alu[]`, and the
effect: `A` and `F` become `res` and `f` with `rel A s C res f`, and nothing else changes but for the T-states of `cr`,
`cm`, `ci`, by default 4, 7 and 7. -/
def accumulatorRule (y : Nat) (onReg : Reg → Instr) (onHl : Instr) (onImm : Byte → Instr)
    (cr cm ci : CostTable → Nat) (rel : Byte → Byte → Bool → Byte → Byte → Prop) : Prop :=
  (∀ r, decodesTo [op (128 + 8 * y + r.index)] (onReg r)) ∧ decodesTo [op (128 + 8 * y + 6)] onHl ∧
    (∀ n, decodesTo [op (192 + 8 * y + 6), n] (onImm n)) ∧
    ∀ s : State,
      (∀ r, ∃ res f, rel s.cpu.a (s.cpu.reg r) (flagC s.cpu.f) res f ∧
        yields (onReg r) s { s.cpu with a := res, f := f } cr 4) ∧
      (∃ res f, rel s.cpu.a (s.memRead s.cpu.hl) (flagC s.cpu.f) res f ∧
        yields onHl s { s.cpu with a := res, f := f } cm 7) ∧
      ∀ n, ∃ res f, rel s.cpu.a n (flagC s.cpu.f) res f ∧
        yields (onImm n) s { s.cpu with a := res, f := f } ci 7

/-- A read, change and write of a register or of the byte at `HL`, with new flags: `rel v f res f'` ties the operand and
the old flags to the result and the new flags. Cost `cr`, by default `nr`, for a register, `cm`, `nm` for memory. -/
def modifyRule (onReg : Reg → Instr) (onHl : Instr) (cr : CostTable → Nat) (nr : Nat) (cm : CostTable → Nat) (nm : Nat)
    (rel : Byte → Byte → Byte → Byte → Prop) : Prop :=
  ∀ s : State, s.mem.wf →
    (∀ r, ∃ res f, rel (s.cpu.reg r) s.cpu.f res f ∧ yields (onReg r) s { s.cpu.setReg r res with f := f } cr nr) ∧
    ∃ res f, rel (s.memRead s.cpu.hl) s.cpu.f res f ∧ stores onHl s s.cpu.hl res { s.cpu with f := f } cm nm

/-- A rotate or shift of the CB page with selector `y` (46_bit_rotate.md R260, R268): encodings, operation
`res v cin`, bit shifted out `out v`, costs by default 8 and 15. -/
def rotateRule (y : Nat) (onReg : Reg → Instr) (onHl : Instr) (cr cm : CostTable → Nat) (res : Nat → Nat → Nat)
    (out : Nat → Nat) : Prop :=
  (∀ r, decodesTo [0xCB, op (8 * y + r.index)] (onReg r)) ∧ decodesTo [0xCB, op (8 * y + 6)] onHl ∧
    modifyRule onReg onHl cr 8 cm 15 fun v f w g =>
      w.toNat = res v.toNat (if flagC f then 1 else 0) ∧ resultBits w g ∧ flagH g = false ∧
        flagPV g = decide (popcount w % 2 = 0) ∧ flagN g = false ∧ flagC g = decide (out v.toNat = 1)

/-! ### Parts of the state -/

/-- `s` with the shadow set of `u`. -/
def withShadowsOf (u s : State) : State :=
  { s with cpu := { s.cpu with
    a_ := u.cpu.a_, f_ := u.cpu.f_, b_ := u.cpu.b_, c_ := u.cpu.c_, d_ := u.cpu.d_, e_ := u.cpu.e_
    h_ := u.cpu.h_, l_ := u.cpu.l_ } }

/-- `s` with the video, the tape, the scheduler and the fault latch of `u`. -/
def withOutsideOf (u s : State) : State :=
  { s with
    video := u.video, tape := u.tape, sched := u.sched
    cpu := { s.cpu with fault := u.cpu.fault } }

/-- Apply a function to the next state. -/
def mapNext (g : State → State) : Result → Result
  | .next t => .next (g t)
  | .fault r => .fault r
  | .refused r => .refused r

/-- The bytes of one tape block in its container: a two-byte little-endian length, then the block. -/
def contained (block : List Byte) : List Byte := op (block.length % 256) :: op (block.length / 256) :: block

end Sys2Proof.Claim

open Sys2Proof Sys2Proof.Machine Sys2Proof.Claim

/-! ## Encoding -/

/-- Decoding the bytes of a well-formed instruction gives it back, whatever follows them (30_encoding.md R90, R97 to
R100). -/
def Obligations.DecodeOfEncodeIsTheInstruction : Prop :=
  ∀ i : Instr, WellFormed i → ∀ rest, decode (encode i ++ rest) = .ok (i, rest)

/-- Whatever decodes is the encoding of a well-formed instruction: each admitted byte sequence has one meaning, and no
operand bit is dropped (30_encoding.md R97 to R101). -/
def Obligations.DecodedBytesAreItsEncoding : Prop :=
  ∀ bytes i rest, decode bytes = .ok (i, rest) → WellFormed i ∧ bytes = encode i ++ rest

/-- The complete list of unrecognised encodings, and what meeting one does (30_encoding.md R101, 60_exceptions.md
R321): the fault latch holds the address and the two bytes, a running scheduler pauses, nothing else changes, and the host
is told once. -/
def Obligations.UnrecognisedEncodingsAreTheListedOnesAndFault : Prop :=
  let listed (b0 b1 : Byte) : Bool :=
    (b0 == 0xCB && decide (0x30 ≤ b1.toNat ∧ b1.toNat ≤ 0x37)) ||
    (b0 == 0xED && !([0x45, 0x46, 0x47, 0x4D, 0x4F, 0x56, 0x57, 0x5E, 0x5F, 0xB0, 0xB8] : List Byte).contains b1) ||
    ((b0 == 0xDD || b0 == 0xFD) && !([0x21, 0xE1, 0xE5] : List Byte).contains b1)
  (∀ b0 b1 rest, listed b0 b1 = true → decode (b0 :: b1 :: rest) = .error (.unrecognised [b0, b1])) ∧
  (∀ b0 b1 b2 b3 rest, listed b0 b1 = false → ∃ i rest', decode (b0 :: b1 :: b2 :: b3 :: rest) = .ok (i, rest')) ∧
  ∀ s : State, s.cpu.fault = none → s.cpu.halted = false → s.trapArmed = false →
    listed (s.memRead s.cpu.pc) (s.memRead (s.cpu.pc + 1)) = true →
    step s = .next { s with
      cpu := { s.cpu with fault := some { addr := s.cpu.pc, bytes := [s.memRead s.cpu.pc, s.memRead (s.cpu.pc + 1)] } }
      sched := { s.sched with mode := if s.sched.mode = .running then .paused else s.sched.mode } } ∧
    stepNotices s =
      [.unrecognised { addr := s.cpu.pc, bytes := [s.memRead s.cpu.pc, s.memRead (s.cpu.pc + 1)] }]

/-- A few instructions' bytes, written out from the encoding tables (30_encoding.md R97 to R100). -/
def Obligations.SampleBytesDecode : Prop :=
  decodesTo [0x21, 0x34, 0x12] (.ldDdNn .hl 0x1234) ∧ decodesTo [0x78] (.ldRR .a .b) ∧
    decodesTo [0x20, 0xFC] (.jrCc .nz 0xFC) ∧ decodesTo [0xFE, 0x10] (.cpN 0x10) ∧
    decodesTo [0x39] (.addHlSs .sp) ∧ decodesTo [0xED, 0xB8] .lddr ∧ decodesTo [0xF1] (.popQq .af) ∧
    decodesTo [0xEF] (.rst 0x28) ∧ decodesTo [0xCB, 0x7C] (.bitR 7 .h) ∧ decodesTo [0xD3, 0xFE] (.outNA 0xFE) ∧
    decodesTo [0xDD, 0x21, 0x00, 0x80] (.ldIxNn 0x8000)

/-! ## The step -/

/-- When the bytes at `PC` decode to `i`, the step is `exec i` of the state in which `PC` is past the instruction and R
has counted its opcode bytes (30_encoding.md R91, R92). -/
def Obligations.StepRunsTheDecodedInstruction : Prop :=
  ∀ (s : State) (i : Instr) (rest : List Byte),
    s.cpu.fault = none → s.cpu.halted = false →
    ¬ (s.tape.playing = true ∧ s.cpu.pc = s.cfg.ldBytesEntry) →
    decode [s.memRead s.cpu.pc, s.memRead (s.cpu.pc + 1), s.memRead (s.cpu.pc + 2), s.memRead (s.cpu.pc + 3)]
      = .ok (i, rest) →
    step s = exec i { s with cpu := { s.cpu with
      pc := s.cpu.pc + BitVec.ofNat 16 i.length
      r := match s.cfg.rPolicy with
        | .m1 => if i.opcodeBytes = 2 then bumpR (bumpR s.cpu.r) else bumpR s.cpu.r
        | .any => s.cpu.r } }

/-- R counts modulo 128, bit 7 kept, and an instruction counts two fetches exactly when it begins with a prefix byte
(10_state.md R25, 30_encoding.md R92). -/
def Obligations.RefreshCountsOpcodeFetches : Prop :=
  (∀ r : Byte, (bumpR r).toNat = 128 * (r.toNat / 128) + (r.toNat + 1) % 128) ∧
  ∀ i : Instr, ∃ b0 rest, encode i = b0 :: rest ∧
    i.opcodeBytes = if b0 = 0xCB ∨ b0 = 0xED ∨ b0 = 0xDD ∨ b0 = 0xFD then 2 else 1

/-- A latched fault freezes the CPU: the step, interrupt entry, single-step and `resume()` change nothing; only a reset
clears the latch, or a tape load, which resets (10_state.md R36, 60_exceptions.md R321, R352). -/
def Obligations.LatchedFaultFreezesTheCpu : Prop :=
  ∀ s : State, s.cpu.fault ≠ none →
    (step s = .next s ∧ s.interrupt = s ∧ hostAct .hostStep s = .next s ∧ hostAct .resume s = .next s) ∧
    ∀ (x : Action) (t : State), act x s = .next t → t.cpu.fault ≠ s.cpu.fault →
      x = .host .reset ∨ ∃ raw, x = .host (.loadImage (some raw))

/-- A halted tick: `PC`, memory and all else unchanged, R counted, HALT_COST added (47_io_system.md R296). -/
def Obligations.HaltedStepIsATick : Prop :=
  ∀ s : State, s.cpu.fault = none → s.cpu.halted = true →
    ¬ (s.tape.playing = true ∧ s.cpu.pc = s.cfg.ldBytesEntry) →
    step s = .next { s with cpu := { s.cpu with
      r := bumpR s.cpu.r, tstates := s.cpu.tstates + s.cfg.haltCost } }

/-! ## Whole-machine rules -/

/-- The state after reset has the invariant, and resetting it changes nothing, creation being "a reset applied to this"
(70_reset_and_hazards.md R401). The reset values the spec leaves open are the model's (notes/assumptions/1.md, 2.md, 3.md). -/
def Obligations.ResetHasTheInvariantAndIsAReset : Prop := Inv State.reset ∧ State.reset.restart = State.reset

/-- Every action, a MachineStep, the frame loop's next action or a host request, goes on to a next state, and keeps the
invariant: canonical memory, tape position, breakpoint set, frame dimensions, scanline range, fault bytes, IFF1 = IFF2. -/
def Obligations.EveryActionKeepsTheInvariant : Prop :=
  ∀ (x : Action) (s : State), Inv s → Result.safe (act x s)

/-- Nothing but `loadRom` changes a byte of ROM: no instruction, trap, interrupt, poke or reset (20_memory.md R61, R63,
R83). -/
def Obligations.OnlyLoadRomChangesRom : Prop :=
  ∀ (x : Action) (s t : State), s.mem.wf → act x s = .next t → (∀ buf, x ≠ .host (.loadRom (some buf))) →
    ∀ a, a < 16384 → t.mem.read a = s.mem.read a

/-- Every instruction, in every state, answers a next state: none faults, none is refused (00_scope.md R10). None writes
the fault latch, the keyboard, the video state, the tape, the scheduler or the parameters, and BORDER only `OUT (n),A`;
and none reads FRAME, FLASH, FRAMECOUNT, the tape, the scheduler or the fault latch: running one commutes with replacing
them (10_state.md R39 to R42; 60_exceptions.md R373). -/
def Obligations.InstructionsKeepToTheirOwnState : Prop :=
  ∀ (i : Instr) (s u : State), ∃ t, exec i s = .next t ∧
    (t.cpu.fault = s.cpu.fault ∧ t.bus.kb = s.bus.kb ∧ t.video = s.video ∧ t.tape = s.tape ∧ t.sched = s.sched ∧
      t.cfg = s.cfg ∧ ((∀ n, i ≠ .outNA n) → t.bus = s.bus)) ∧
    exec i (withOutsideOf u s) = .next (withOutsideOf u t)

/-- The control state and who writes it, at an instruction (10_state.md R25, R26). -/
def Obligations.ControlStateHasOnlyItsWriters : Prop :=
  ∀ (i : Instr) (s t : State), exec i s = .next t →
    (t.cpu.iff1 ≠ s.cpu.iff1 → i = .ei ∨ i = .di ∨ i = .retn) ∧ (t.cpu.iff2 ≠ s.cpu.iff2 → i = .ei ∨ i = .di) ∧
      (t.cpu.im ≠ s.cpu.im → i = .im0 ∨ i = .im1 ∨ i = .im2) ∧ (t.cpu.halted ≠ s.cpu.halted → i = .halt) ∧
      (t.cpu.i ≠ s.cpu.i → i = .ldIA) ∧ (t.cpu.r ≠ s.cpu.r → i = .ldRA)

/-- The shadow set: `EX AF,AF'` and `EXX` exchange it, and no other instruction reads or writes it, which is to say
that running one commutes with replacing the shadow set by any other (10_state.md R22). -/
def Obligations.ShadowSetReachedOnlyByExchanges : Prop :=
  (∀ s : State,
    yields .exAfAf s { s.cpu with a := s.cpu.a_, f := s.cpu.f_, a_ := s.cpu.a, f_ := s.cpu.f } (·.exAfAf) 4 ∧
    yields .exx s { s.cpu with
      b := s.cpu.b_, c := s.cpu.c_, d := s.cpu.d_, e := s.cpu.e_, h := s.cpu.h_, l := s.cpu.l_
      b_ := s.cpu.b, c_ := s.cpu.c, d_ := s.cpu.d, e_ := s.cpu.e, h_ := s.cpu.h, l_ := s.cpu.l } (·.exx) 4) ∧
  ∀ (i : Instr) (s u : State), i ≠ .exAfAf → i ≠ .exx →
    exec i (withShadowsOf u s) = mapNext (withShadowsOf u) (exec i s)

/-- Two memories in canonical form that read alike everywhere are the same list; a store reads back, outside ROM; a
two-byte access is two one-byte accesses, the second modulo 65536, low byte at the lower address (20_memory.md R62 to
R65). -/
def Obligations.MemoryAccess : Prop :=
  (∀ m m' : Memory, m.wf → m'.wf → (∀ a, m.read a = m'.read a) → m = m') ∧
  ∀ (s : State) (x : Word), s.mem.wf →
    (∀ v, (s.memWrite x v).mem.wf ∧ storedOne s (s.memWrite x v).mem x v) ∧
    (s.memRead16 x).toNat = (s.memRead x).toNat + 256 * (s.memRead (x + 1)).toNat ∧
    ∀ v : Word, storedTwo s (s.memWrite16 x v).mem x (op (v.toNat % 256)) (x + 1) (op (v.toNat / 256))

/-- A pair is `high*256 + low`, it reads back what was written, and a register write touches that register alone
(10_state.md R21, 00_scope.md R8). -/
def Obligations.RegisterPairsAreTheirHalves : Prop :=
  ∀ c : Cpu,
    (c.af.toNat = 256 * c.a.toNat + c.f.toNat ∧ c.bc.toNat = 256 * c.b.toNat + c.c.toNat ∧
      c.de.toNat = 256 * c.d.toNat + c.e.toNat ∧ c.hl.toNat = 256 * c.h.toNat + c.l.toNat) ∧
    (∀ dst p v, (c.setPair dst v).pair p = if p = dst then v else c.pair p) ∧
    (∀ dst p v, (c.setStackPair dst v).stackPair p = if p = dst then v else c.stackPair p) ∧
    (∀ dst r v, (c.setReg dst v).reg r = if r = dst then v else c.reg r) ∧
    (∀ dst v, (c.setReg dst v).setReg dst (c.reg dst) = c) ∧
    (∀ dst v, (c.setPair dst v).setPair dst (c.pair dst) = c) ∧
    ∀ dst v, (c.setStackPair dst v).setStackPair dst (c.stackPair dst) = c

/-! ## Loads and exchanges (40_loads.md) -/

/-- R120, R135, R136: the 16-bit immediate loads. -/
def Obligations.ImmediateWordLoads : Prop :=
  ∀ lo hi : Byte,
    (∀ dd, decodesTo [op (1 + 16 * dd.index), lo, hi] (.ldDdNn dd (mkWord hi lo))) ∧
    decodesTo [0xDD, 0x21, lo, hi] (.ldIxNn (mkWord hi lo)) ∧ decodesTo [0xFD, 0x21, lo, hi] (.ldIyNn (mkWord hi lo)) ∧
    (mkWord hi lo).toNat = hi.toNat * 256 + lo.toNat ∧
    ∀ s : State,
      yields (.ldDdNn .bc (mkWord hi lo)) s { s.cpu with b := hi, c := lo } (·.ldDdNn) 10 ∧
      yields (.ldDdNn .de (mkWord hi lo)) s { s.cpu with d := hi, e := lo } (·.ldDdNn) 10 ∧
      yields (.ldDdNn .hl (mkWord hi lo)) s { s.cpu with h := hi, l := lo } (·.ldDdNn) 10 ∧
      yields (.ldDdNn .sp (mkWord hi lo)) s { s.cpu with sp := mkWord hi lo } (·.ldDdNn) 10 ∧
      yields (.ldIxNn (mkWord hi lo)) s { s.cpu with ix := mkWord hi lo } (·.ldIxNn) 14 ∧
      yields (.ldIyNn (mkWord hi lo)) s { s.cpu with iy := mkWord hi lo } (·.ldIyNn) 14

/-- R121, R122: moves between registers and of an immediate. -/
def Obligations.RegisterMoves : Prop :=
  (∀ dst r, decodesTo [op (64 + 8 * dst.index + r.index)] (.ldRR dst r)) ∧
  (∀ dst n, decodesTo [op (6 + 8 * dst.index), n] (.ldRN dst n)) ∧
  ∀ s : State,
    (∀ dst r, yields (.ldRR dst r) s (s.cpu.setReg dst (s.cpu.reg r)) (·.ldRR) 4) ∧
    (∀ r, yields (.ldRR r r) s s.cpu (·.ldRR) 4) ∧
    ∀ dst n, yields (.ldRN dst n) s (s.cpu.setReg dst n) (·.ldRN) 7

/-- R123, R126, R127, R128, R132: loads from memory. -/
def Obligations.LoadsFromMemory : Prop :=
  (∀ dst, decodesTo [op (70 + 8 * dst.index)] (.ldRHl dst)) ∧ decodesTo [0x0A] .ldABc ∧ decodesTo [0x1A] .ldADe ∧
  (∀ lo hi, decodesTo [0x3A, lo, hi] (.ldANn (mkWord hi lo)) ∧ decodesTo [0x2A, lo, hi] (.ldHlNn (mkWord hi lo))) ∧
  ∀ s : State,
    (∀ dst, yields (.ldRHl dst) s (s.cpu.setReg dst (s.memRead s.cpu.hl)) (·.ldRHl) 7) ∧
    yields .ldABc s { s.cpu with a := s.memRead s.cpu.bc } (·.ldABc) 7 ∧
    yields .ldADe s { s.cpu with a := s.memRead s.cpu.de } (·.ldADe) 7 ∧
    ∀ nn, yields (.ldANn nn) s { s.cpu with a := s.memRead nn } (·.ldANn) 13 ∧
      yields (.ldHlNn nn) s { s.cpu with l := s.memRead nn, h := s.memRead (nn + 1) } (·.ldHlNn) 16

/-- R124, R125, R129, R130, R131, R133: the stores; every other byte of memory, and a byte of ROM, reads as before.
`LD (nn),HL` stores L at `nn` and H at `nn + 1`, each byte subject to ROM protection on its own. -/
def Obligations.Stores : Prop :=
  (∀ r, decodesTo [op (112 + r.index)] (.ldHlR r)) ∧ (∀ n, decodesTo [0x36, n] (.ldHlN n)) ∧
  decodesTo [0x02] .ldBcA ∧ decodesTo [0x12] .ldDeA ∧ (∀ lo hi, decodesTo [0x32, lo, hi] (.ldNnA (mkWord hi lo))) ∧
  (∀ lo hi, decodesTo [0x22, lo, hi] (.ldNnHl (mkWord hi lo))) ∧
  ∀ s : State, s.mem.wf →
    (∀ r, stores (.ldHlR r) s s.cpu.hl (s.cpu.reg r) s.cpu (·.ldHlR) 7) ∧
    (∀ n, stores (.ldHlN n) s s.cpu.hl n s.cpu (·.ldHlN) 10) ∧
    stores .ldBcA s s.cpu.bc s.cpu.a s.cpu (·.ldBcA) 7 ∧ stores .ldDeA s s.cpu.de s.cpu.a s.cpu (·.ldDeA) 7 ∧
    ∀ nn, stores (.ldNnA nn) s nn s.cpu.a s.cpu (·.ldNnA) 13 ∧
      costs (·.ldNnHl) 16 ∧ ∃ m, exec (.ldNnHl nn) s = .next { s with mem := m, cpu := after s s.cpu (·.ldNnHl) } ∧
        storedTwo s m nn s.cpu.l (nn + 1) s.cpu.h

/-- R134, R140, R141, R142: `LD SP,HL` and the register exchanges; exchanging twice restores. -/
def Obligations.RegisterExchanges : Prop :=
  decodesTo [0xF9] .ldSpHl ∧ decodesTo [0xEB] .exDeHl ∧ decodesTo [0x08] .exAfAf ∧ decodesTo [0xD9] .exx ∧
  ∀ s : State,
    yields .ldSpHl s { s.cpu with sp := s.cpu.hl } (·.ldSpHl) 6 ∧
    yields .exDeHl s { s.cpu with d := s.cpu.h, e := s.cpu.l, h := s.cpu.d, l := s.cpu.e } (·.exDeHl) 4 ∧
    yields .exAfAf s { s.cpu with a := s.cpu.a_, f := s.cpu.f_, a_ := s.cpu.a, f_ := s.cpu.f } (·.exAfAf) 4 ∧
    yields .exx s { s.cpu with
      b := s.cpu.b_, c := s.cpu.c_, d := s.cpu.d_, e := s.cpu.e_, h := s.cpu.h_, l := s.cpu.l_
      b_ := s.cpu.b, c_ := s.cpu.c, d_ := s.cpu.d, e_ := s.cpu.e, h_ := s.cpu.h, l_ := s.cpu.l } (·.exx) 4 ∧
    ∀ i ∈ [Instr.exDeHl, Instr.exAfAf, Instr.exx], ∃ t k, exec i s = .next t ∧
      exec i t = .next { s with cpu := { s.cpu with tstates := k } }

/-! ## Jumps (41_jumps.md) -/

/-- R150, R151, R152: the target is the address after the displacement byte plus the displacement read as signed,
modulo 65536. -/
def Obligations.RelativeJumps : Prop :=
  (∀ e, decodesTo [0x18, e] (.jr e)) ∧ (∀ e, decodesTo [0x10, e] (.djnz e)) ∧
  (∀ e, decodesTo [0x20, e] (.jrCc .nz e) ∧ decodesTo [0x28, e] (.jrCc .z e) ∧ decodesTo [0x30, e] (.jrCc .nc e) ∧
    decodesTo [0x38, e] (.jrCc .c e)) ∧
  ∀ (s : State) (e : Byte),
    let target : Word := BitVec.ofInt 16 (s.cpu.pc.toNat + e.toInt)
    yields (.jr e) s { s.cpu with pc := target } (·.jr) 12 ∧
    (∀ cc, yields (.jrCc cc e) s { s.cpu with pc := if condTrue s.cpu.f cc then target else s.cpu.pc }
      (if condTrue s.cpu.f cc then (·.jrCc) else (·.jrCcNotTaken)) (if condTrue s.cpu.f cc then 12 else 7)) ∧
    yields (.djnz e) s
      { s.cpu with b := s.cpu.b - 1, pc := if s.cpu.b = 1 then s.cpu.pc else target }
      (if s.cpu.b = 1 then (·.djnzNotTaken) else (·.djnz)) (if s.cpu.b = 1 then 8 else 13)

/-- R153, R154, R155. -/
def Obligations.AbsoluteJumps : Prop :=
  (∀ lo hi, decodesTo [0xC3, lo, hi] (.jpNn (mkWord hi lo)) ∧
    ∀ cc : Cond, decodesTo [op (194 + 8 * cc.index), lo, hi] (.jpCcNn cc (mkWord hi lo))) ∧
  decodesTo [0xE9] .jpHl ∧
  ∀ s : State,
    (∀ nn, yields (.jpNn nn) s { s.cpu with pc := nn } (·.jpNn) 10 ∧
      ∀ cc, yields (.jpCcNn cc nn) s { s.cpu with pc := if condTrue s.cpu.f cc then nn else s.cpu.pc } (·.jpCcNn) 10) ∧
    yields .jpHl s { s.cpu with pc := s.cpu.hl } (·.jpHl) 4

/-! ## 8-bit arithmetic and logic (42_alu8.md) -/

/-- R171, R172: ADD and ADC are integer addition, with the carry as carry-in for ADC. -/
def Obligations.AdditionToTheAccumulator : Prop :=
  accumulatorRule 0 .addR .addHl .addN (·.addR) (·.addHl) (·.addN) (fun a v _ res f => addition a v false res f) ∧
  accumulatorRule 1 .adcR .adcHl .adcN (·.adcR) (·.adcHl) (·.adcN) addition

/-- R173, R174, R178: SUB, SBC and CP are integer subtraction; CP keeps `A`. -/
def Obligations.SubtractionAndComparison : Prop :=
  accumulatorRule 2 .subR .subHl .subN (·.subR) (·.subHl) (·.subN) (fun a v _ res f => subtraction a v false res f) ∧
  accumulatorRule 3 .sbcR .sbcHl .sbcN (·.sbcR) (·.sbcHl) (·.sbcN) subtraction ∧
  accumulatorRule 7 .cpR .cpHl .cpN (·.cpR) (·.cpHl) (·.cpN) (fun a v _ res f =>
    res = a ∧ ∃ diff, subtraction a v false diff f)

/-- R175, R176, R177: the logic operations, bit by bit. -/
def Obligations.LogicOperations : Prop :=
  accumulatorRule 4 .andR .andHl .andN (·.andR) (·.andHl) (·.andN) (fun a v _ res f =>
    (∀ k, res.getLsbD k = (a.getLsbD k && v.getLsbD k)) ∧ logicalFlags res f true) ∧
  accumulatorRule 5 .xorR .xorHl .xorN (·.xorR) (·.xorHl) (·.xorN) (fun a v _ res f =>
    (∀ k, res.getLsbD k = (a.getLsbD k ^^ v.getLsbD k)) ∧ logicalFlags res f false) ∧
  accumulatorRule 6 .orR .orHl .orN (·.orR) (·.orHl) (·.orN) (fun a v _ res f =>
    (∀ k, res.getLsbD k = (a.getLsbD k || v.getLsbD k)) ∧ logicalFlags res f false)

/-- R181, R182: INC and DEC of a byte; C is kept. -/
def Obligations.IncrementAndDecrement : Prop :=
  (∀ r, decodesTo [op (4 + 8 * r.index)] (.incR r)) ∧ decodesTo [0x34] .incHl ∧
  (∀ r, decodesTo [op (5 + 8 * r.index)] (.decR r)) ∧ decodesTo [0x35] .decHl ∧
  modifyRule .incR .incHl (·.incR) 4 (·.incHl) 11 (fun v f res g =>
    res.toNat = (v.toNat + 1) % 256 ∧ resultBits res g ∧ flagH g = decide (v.toNat % 16 = 15) ∧
      flagPV g = decide (v.toNat = 0x7F) ∧ flagN g = false ∧ flagC g = flagC f) ∧
  modifyRule .decR .decHl (·.decR) 4 (·.decHl) 11 (fun v f res g =>
    res.toNat = (v.toNat + 255) % 256 ∧ resultBits res g ∧ flagH g = decide (v.toNat % 16 = 0) ∧
      flagPV g = decide (v.toNat = 0x80) ∧ flagN g = true ∧ flagC g = flagC f)

/-- R185: DAA, with the correction as a sum of 6 and 0x60. -/
def Obligations.DecimalAdjust : Prop :=
  decodesTo [0x27] .daa ∧
  ∀ s : State, ∃ res f,
    yields .daa s { s.cpu with a := res, f := f } (·.daa) 4 ∧
    let a := s.cpu.a.toNat
    let low := flagH s.cpu.f || decide (9 < a % 16)
    let high := flagC s.cpu.f || decide (0x99 < a)
    let corr := (if low then 6 else 0) + (if high then 0x60 else 0)
    res.toNat = (if flagN s.cpu.f then (256 + a - corr) % 256 else (a + corr) % 256) ∧ resultBits res f ∧
      flagH f = (if flagN s.cpu.f then flagH s.cpu.f && decide (a % 16 < 6) else decide (9 < a % 16)) ∧
      flagPV f = decide (popcount res % 2 = 0) ∧ flagN f = flagN s.cpu.f ∧ flagC f = high

/-- What DAA is for (derived from R171, R172, R185): after an ADC of two decimal bytes, it leaves the decimal sum, modulo 100,
and the decimal carry. -/
def Obligations.DecimalAdjustCorrectsAnAddition : Prop :=
  ∀ (s : State) (n : Byte),
    s.cpu.a.toNat % 16 ≤ 9 → s.cpu.a.toNat / 16 ≤ 9 → n.toNat % 16 ≤ 9 → n.toNat / 16 ≤ 9 →
    ∃ t u, exec (.adcN n) s = .next t ∧ exec .daa t = .next u ∧
      let dec (v : Byte) : Nat := 10 * (v.toNat / 16) + v.toNat % 16
      let sum := dec s.cpu.a + dec n + if flagC s.cpu.f then 1 else 0
      dec u.cpu.a = sum % 100 ∧ u.cpu.a.toNat % 16 ≤ 9 ∧ flagC u.cpu.f = decide (100 ≤ sum)

/-- R186, R187, R188: CPL, SCF, CCF. -/
def Obligations.ComplementAndCarryFlag : Prop :=
  decodesTo [0x2F] .cpl ∧ decodesTo [0x37] .scf ∧ decodesTo [0x3F] .ccf ∧
  ∀ s : State,
    let kept (f acc : Byte) : Prop := flagS f = flagS s.cpu.f ∧ flagZ f = flagZ s.cpu.f ∧ flagPV f = flagPV s.cpu.f ∧
      flagY f = acc.getLsbD 5 ∧ flagX f = acc.getLsbD 3
    (∃ res f, yields .cpl s { s.cpu with a := res, f := f } (·.cpl) 4 ∧ res.toNat = 255 - s.cpu.a.toNat ∧ kept f res ∧
      flagH f = true ∧ flagN f = true ∧ flagC f = flagC s.cpu.f) ∧
    (∃ f, yields .scf s { s.cpu with f := f } (·.scf) 4 ∧ kept f s.cpu.a ∧ flagH f = false ∧ flagN f = false ∧
      flagC f = true) ∧
    ∃ f, yields .ccf s { s.cpu with f := f } (·.ccf) 4 ∧ kept f s.cpu.a ∧ flagH f = flagC s.cpu.f ∧ flagN f = false ∧
      flagC f = !flagC s.cpu.f

/-- R189 to R193: the accumulator rotates, on numbers. -/
def Obligations.AccumulatorRotates : Prop :=
  let rule (i : Instr) (code : Byte) (t : CostTable → Nat) (res : Nat → Nat → Nat) (out : Nat → Nat) : Prop :=
    decodesTo [code] i ∧
    ∀ s : State, ∃ w f, yields i s { s.cpu with a := w, f := f } t 4 ∧
      w.toNat = res s.cpu.a.toNat (if flagC s.cpu.f then 1 else 0) ∧ flagC f = decide (out s.cpu.a.toNat = 1) ∧
      flagH f = false ∧ flagN f = false ∧ flagY f = w.getLsbD 5 ∧ flagX f = w.getLsbD 3 ∧
      flagS f = flagS s.cpu.f ∧ flagZ f = flagZ s.cpu.f ∧ flagPV f = flagPV s.cpu.f
  rule .rlca 0x07 (·.rlca) (fun v _ => 2 * v % 256 + v / 128) (fun v => v / 128) ∧
  rule .rrca 0x0F (·.rrca) (fun v _ => v / 2 + 128 * (v % 2)) (fun v => v % 2) ∧
  rule .rla 0x17 (·.rla) (fun v c => 2 * v % 256 + c) (fun v => v / 128) ∧
  rule .rra 0x1F (·.rra) (fun v c => v / 2 + 128 * c) (fun v => v % 2)

/-! ## 16-bit arithmetic and block moves (43_alu16.md, 44_block.md) -/

/-- R210, R211, R212. -/
def Obligations.WordArithmetic : Prop :=
  (∀ ss, decodesTo [op (9 + 16 * ss.index)] (.addHlSs ss) ∧ decodesTo [op (3 + 16 * ss.index)] (.incSs ss) ∧
    decodesTo [op (11 + 16 * ss.index)] (.decSs ss)) ∧
  ∀ (s : State) (ss : RegPair),
    (∃ w f, yields (.addHlSs ss) s { s.cpu.setHl w with f := f } (·.addHlSs) 11 ∧
      let a := s.cpu.hl.toNat
      let b := (s.cpu.pair ss).toNat
      w.toNat = (a + b) % 65536 ∧ flagC f = decide (65536 ≤ a + b) ∧ flagH f = decide (4096 ≤ a % 4096 + b % 4096) ∧
        flagN f = false ∧ flagY f = w.getLsbD 13 ∧ flagX f = w.getLsbD 11 ∧
        flagS f = flagS s.cpu.f ∧ flagZ f = flagZ s.cpu.f ∧ flagPV f = flagPV s.cpu.f) ∧
    yields (.incSs ss) s (s.cpu.setPair ss (s.cpu.pair ss + 1)) (·.incSs) 6 ∧
    yields (.decSs ss) s (s.cpu.setPair ss (s.cpu.pair ss - 1)) (·.decSs) 6

/-- R221, R222: one iteration of LDIR and LDDR. -/
def Obligations.BlockMoveIteration : Prop :=
  decodesTo [0xED, 0xB0] .ldir ∧ decodesTo [0xED, 0xB8] .lddr ∧
  ∀ (i : Instr) (s : State), i = .ldir ∨ i = .lddr → s.mem.wf →
    let delta : Word := if i = .ldir then 1 else 0xFFFF
    let more : Bool := decide (s.cpu.bc ≠ 1)
    let t : CostTable → Nat :=
      if i = .ldir then (if more then (·.ldir) else (·.ldirLast)) else if more then (·.lddr) else (·.lddrLast)
    costs t (if more then 21 else 16) ∧ ∃ m f,
      exec i s = .next { s with
        mem := m
        cpu := after s { ((s.cpu.setHl (s.cpu.hl + delta)).setDe (s.cpu.de + delta)).setBc (s.cpu.bc - 1) with
          f := f, pc := if more then s.cpu.pc - 2 else s.cpu.pc } t } ∧
      storedOne s m s.cpu.de (s.memRead s.cpu.hl) ∧
      flagH f = false ∧ flagN f = false ∧ flagPV f = (decide (i = .lddr) && more) ∧ flagS f = flagS s.cpu.f ∧
      flagZ f = flagZ s.cpu.f ∧ flagY f = flagY s.cpu.f ∧ flagX f = flagX s.cpu.f ∧ flagC f = flagC s.cpu.f

/-- The document's LDIR test, for every length (44_block.md R221): running `BC` steps at an LDIR copies the block, when
source, destination and the instruction's own bytes are disjoint, nothing wraps and the destination is in RAM. -/
def Obligations.LdirCopiesADisjointBlock : Prop :=
  ∀ (s : State) (n : Nat), s.mem.wf → s.cpu.fault = none → s.cpu.halted = false → s.tape.playing = false →
    s.memRead s.cpu.pc = 0xED → s.memRead (s.cpu.pc + 1) = 0xB0 →
    n = s.cpu.bc.toNat → 0 < n →
    s.cpu.hl.toNat + n ≤ 65536 → 16384 ≤ s.cpu.de.toNat → s.cpu.de.toNat + n ≤ 65536 →
    s.cpu.hl.toNat + n ≤ s.cpu.de.toNat ∨ s.cpu.de.toNat + n ≤ s.cpu.hl.toNat →
    s.cpu.pc.toNat < s.cpu.de.toNat ∨ s.cpu.de.toNat + n ≤ s.cpu.pc.toNat →
    (s.cpu.pc + 1).toNat < s.cpu.de.toNat ∨ s.cpu.de.toNat + n ≤ (s.cpu.pc + 1).toNat →
    ∃ t, Host.Core.run core n s = .next t ∧
      t.cpu.bc = 0 ∧ t.cpu.hl = s.cpu.hl + BitVec.ofNat 16 n ∧ t.cpu.de = s.cpu.de + BitVec.ofNat 16 n ∧
      t.cpu.pc = s.cpu.pc + 2 ∧ t.cpu.tstates = s.cpu.tstates + s.cfg.cost.ldir * (n - 1) + s.cfg.cost.ldirLast ∧
      t.cpu.a = s.cpu.a ∧ t.cpu.sp = s.cpu.sp ∧ flagPV t.cpu.f = false ∧
      ∀ y : Word, t.memRead y =
        if s.cpu.de.toNat ≤ y.toNat ∧ y.toNat < s.cpu.de.toNat + n then s.memRead (s.cpu.hl + (y - s.cpu.de))
        else s.memRead y

/-! ## Stack, calls, returns (45_stack_calls.md) -/

/-- R232, R234, R235: the pushes, high byte at `SP - 1`, low byte at `SP - 2`, a byte in ROM dropped. -/
def Obligations.Pushes : Prop :=
  (∀ qq, decodesTo [op (197 + 16 * qq.index)] (.pushQq qq)) ∧ decodesTo [0xDD, 0xE5] .pushIx ∧
  decodesTo [0xFD, 0xE5] .pushIy ∧
  ∀ s : State, s.mem.wf →
    (∀ qq, pushes (.pushQq qq) s (s.cpu.stackPair qq) s.cpu (·.pushQq) 11) ∧
    pushes .pushIx s s.cpu.ix s.cpu (·.pushIx) 15 ∧ pushes .pushIy s s.cpu.iy s.cpu (·.pushIy) 15

/-- R233, R236, R237: the pops; `POP AF` replaces all of `F`. -/
def Obligations.Pops : Prop :=
  (∀ qq, decodesTo [op (193 + 16 * qq.index)] (.popQq qq)) ∧ decodesTo [0xDD, 0xE1] .popIx ∧
  decodesTo [0xFD, 0xE1] .popIy ∧
  ∀ s : State,
    let lo := s.memRead s.cpu.sp
    let hi := s.memRead (s.cpu.sp + 1)
    yields (.popQq .bc) s { s.cpu with sp := s.cpu.sp + 2, b := hi, c := lo } (·.popQq) 10 ∧
    yields (.popQq .de) s { s.cpu with sp := s.cpu.sp + 2, d := hi, e := lo } (·.popQq) 10 ∧
    yields (.popQq .hl) s { s.cpu with sp := s.cpu.sp + 2, h := hi, l := lo } (·.popQq) 10 ∧
    yields (.popQq .af) s { s.cpu with sp := s.cpu.sp + 2, a := hi, f := lo } (·.popQq) 10 ∧
    yields .popIx s { s.cpu with sp := s.cpu.sp + 2, ix := mkWord hi lo } (·.popIx) 14 ∧
    yields .popIy s { s.cpu with sp := s.cpu.sp + 2, iy := mkWord hi lo } (·.popIy) 14

/-- With both stack bytes in RAM, a push and then a pop moves the value, and a call and then a return at its target
continues after the call, `SP` restored (45_stack_calls.md R231, R242). -/
def Obligations.StackRoundTrips : Prop :=
  ∀ s : State, s.mem.wf → 16384 ≤ (s.cpu.sp - 1).toNat → 16384 ≤ (s.cpu.sp - 2).toNat →
    (∀ p q : StackPair, ∃ t u, exec (.pushQq p) s = .next t ∧ exec (.popQq q) t = .next u ∧
      u.cpu.stackPair q = s.cpu.stackPair p ∧ u.cpu.sp = s.cpu.sp) ∧
    ∀ nn : Word, ∃ t u, exec (.callNn nn) s = .next t ∧ t.cpu.pc = nn ∧ exec .ret t = .next u ∧
      u.cpu.pc = s.cpu.pc ∧ u.cpu.sp = s.cpu.sp

/-- R238: `EX (SP),HL`. -/
def Obligations.ExchangeStackTop : Prop :=
  decodesTo [0xE3] .exSpHl ∧
  costs (·.exSpHl) 19 ∧
  ∀ s : State, s.mem.wf → ∃ m,
    exec .exSpHl s = .next { s with
      mem := m
      cpu := after s { s.cpu with l := s.memRead s.cpu.sp, h := s.memRead (s.cpu.sp + 1) } (·.exSpHl) } ∧
    storedTwo s m s.cpu.sp s.cpu.l (s.cpu.sp + 1) s.cpu.h

/-- R240, R241, R245: the calls push the address of the next instruction and jump. -/
def Obligations.Calls : Prop :=
  (∀ lo hi, decodesTo [0xCD, lo, hi] (.callNn (mkWord hi lo)) ∧
    ∀ cc : Cond, decodesTo [op (196 + 8 * cc.index), lo, hi] (.callCcNn cc (mkWord hi lo))) ∧
  (∀ y, y < 8 → decodesTo [op (199 + 8 * y)] (.rst (op (8 * y)))) ∧
  ∀ s : State, s.mem.wf →
    (∀ nn, pushes (.callNn nn) s s.cpu.pc { s.cpu with pc := nn } (·.callNn) 17 ∧
      ∀ cc, if condTrue s.cpu.f cc then pushes (.callCcNn cc nn) s s.cpu.pc { s.cpu with pc := nn } (·.callCcNn) 17
        else yields (.callCcNn cc nn) s s.cpu (·.callCcNnNotTaken) 10) ∧
    ∀ p : Byte, pushes (.rst p) s s.cpu.pc { s.cpu with pc := BitVec.ofNat 16 p.toNat } (·.rst) 11

/-- R242, R243, R244, R246: the returns. -/
def Obligations.Returns : Prop :=
  decodesTo [0xC9] .ret ∧ (∀ cc : Cond, decodesTo [op (192 + 8 * cc.index)] (.retCc cc)) ∧
  decodesTo [0xED, 0x4D] .reti ∧ decodesTo [0xED, 0x45] .retn ∧
  ∀ s : State,
    let back : Cpu := { s.cpu with pc := topWord s, sp := s.cpu.sp + 2 }
    yields .ret s back (·.ret) 10 ∧
    (∀ cc, if condTrue s.cpu.f cc then yields (.retCc cc) s back (·.retCc) 11
      else yields (.retCc cc) s s.cpu (·.retCcNotTaken) 5) ∧
    yields .reti s back (·.reti) 14 ∧ yields .retn s { back with iff1 := s.cpu.iff2 } (·.retn) 14

/-! ## The CB page (46_bit_rotate.md) -/

/-- R261 to R268: the rotates and shifts, on numbers. -/
def Obligations.RotatesAndShifts : Prop :=
  rotateRule 0 .rlcR .rlcHl (·.rlcR) (·.rlcHl) (fun v _ => 2 * v % 256 + v / 128) (fun v => v / 128) ∧
  rotateRule 1 .rrcR .rrcHl (·.rrcR) (·.rrcHl) (fun v _ => v / 2 + 128 * (v % 2)) (fun v => v % 2) ∧
  rotateRule 2 .rlR .rlHl (·.rlR) (·.rlHl) (fun v c => 2 * v % 256 + c) (fun v => v / 128) ∧
  rotateRule 3 .rrR .rrHl (·.rrR) (·.rrHl) (fun v c => v / 2 + 128 * c) (fun v => v % 2) ∧
  rotateRule 4 .slaR .slaHl (·.slaR) (·.slaHl) (fun v _ => 2 * v % 256) (fun v => v / 128) ∧
  rotateRule 5 .sraR .sraHl (·.sraR) (·.sraHl) (fun v _ => v / 2 + 128 * (v / 128)) (fun v => v % 2) ∧
  rotateRule 7 .srlR .srlHl (·.srlR) (·.srlHl) (fun v _ => v / 2) (fun v => v % 2)

/-- R270: BIT writes Z, H and N alone. -/
def Obligations.BitTest : Prop :=
  (∀ (b : BitVec 3) r, decodesTo [0xCB, op (64 + 8 * b.toNat + r.index)] (.bitR b r)) ∧
  (∀ b : BitVec 3, decodesTo [0xCB, op (64 + 8 * b.toNat + 6)] (.bitHl b)) ∧
  ∀ (s : State) (b : BitVec 3),
    let tested (v f : Byte) : Prop :=
      flagZ f = decide (v.toNat / 2 ^ b.toNat % 2 = 0) ∧ flagH f = true ∧ flagN f = false ∧ flagS f = flagS s.cpu.f ∧
        flagY f = flagY s.cpu.f ∧ flagX f = flagX s.cpu.f ∧ flagPV f = flagPV s.cpu.f ∧ flagC f = flagC s.cpu.f
    (∀ r, ∃ f, tested (s.cpu.reg r) f ∧ yields (.bitR b r) s { s.cpu with f := f } (·.bitR) 8) ∧
    ∃ f, tested (s.memRead s.cpu.hl) f ∧ yields (.bitHl b) s { s.cpu with f := f } (·.bitHl) 12

/-- R271, R272: RES and SET change one bit and no flag. -/
def Obligations.BitResetAndSet : Prop :=
  (∀ (b : BitVec 3) r, decodesTo [0xCB, op (128 + 8 * b.toNat + r.index)] (.resR b r) ∧
    decodesTo [0xCB, op (192 + 8 * b.toNat + r.index)] (.setR b r)) ∧
  (∀ b : BitVec 3, decodesTo [0xCB, op (128 + 8 * b.toNat + 6)] (.resHl b) ∧
    decodesTo [0xCB, op (192 + 8 * b.toNat + 6)] (.setHl b)) ∧
  ∀ b : BitVec 3,
    let becomes (x : Bool) (v f res g : Byte) : Prop :=
      g = f ∧ ∀ k, k < 8 → res.getLsbD k = if k = b.toNat then x else v.getLsbD k
    modifyRule (.resR b) (.resHl b) (·.resR) 8 (·.resHl) 15 (becomes false) ∧
    modifyRule (.setR b) (.setHl b) (·.setR) 8 (·.setHl) 15 (becomes true)

/-! ## Ports and system instructions (47_io_system.md, 20_memory.md) -/

/-- R290, R291 with R70 to R72, R74: `IN A,(n)` reads, on an even port, bit by bit the AND of the selected keyboard rows,
on an odd port 0xFF; `OUT (n),A` sets BORDER to `A[2:0]` on an even port and does nothing on an odd one. -/
def Obligations.PortInstructions : Prop :=
  (∀ n, decodesTo [0xDB, n] (.inAN n)) ∧ (∀ n, decodesTo [0xD3, n] (.outNA n)) ∧
  ∀ (s : State) (n : Byte),
    (∃ v, yields (.inAN n) s { s.cpu with a := v } (·.inAN) 11 ∧
      (n.toNat % 2 = 1 → v = 0xFF) ∧
      (n.toNat % 2 = 0 → ∀ k, k < 8 →
        (v.getLsbD k = true ↔ ∀ row : Fin 8, s.cpu.a.getLsbD row.val = false → (s.bus.kb[row]).getLsbD k = true))) ∧
    costs (·.outNA) 11 ∧ ∃ border : BitVec 3,
      exec (.outNA n) s = .next { s with bus := { s.bus with border := border }, cpu := after s s.cpu (·.outNA) } ∧
      (n.toNat % 2 = 1 → border = s.bus.border) ∧ (n.toNat % 2 = 0 → border.toNat = s.cpu.a.toNat % 8)

/-- R295 to R299: NOP, HALT, DI, EI, IM 0/1/2. -/
def Obligations.ControlInstructions : Prop :=
  decodesTo [0x00] .nop ∧ decodesTo [0x76] .halt ∧ decodesTo [0xF3] .di ∧ decodesTo [0xFB] .ei ∧
  decodesTo [0xED, 0x46] .im0 ∧ decodesTo [0xED, 0x56] .im1 ∧ decodesTo [0xED, 0x5E] .im2 ∧
  ∀ s : State,
    yields .nop s s.cpu (·.nop) 4 ∧ yields .halt s { s.cpu with halted := true } (·.halt) 4 ∧
    yields .di s { s.cpu with iff1 := false, iff2 := false } (·.di) 4 ∧
    yields .ei s { s.cpu with iff1 := true, iff2 := true } (·.ei) 4 ∧
    yields .im0 s { s.cpu with im := .im0 } (·.im0) 8 ∧ yields .im1 s { s.cpu with im := .im1 } (·.im1) 8 ∧
    yields .im2 s { s.cpu with im := .im2 } (·.im2) 8

/-- R300 to R303: the moves to and from I and R. Under R_POLICY = any the low seven bits `LD A,R` loads are a free value:
the statement holds for every one. -/
def Obligations.InterruptVectorAndRefreshLoads : Prop :=
  decodesTo [0xED, 0x47] .ldIA ∧ decodesTo [0xED, 0x4F] .ldRA ∧ decodesTo [0xED, 0x57] .ldAI ∧
  decodesTo [0xED, 0x5F] .ldAR ∧
  ∀ s : State,
    let loaded (v f : Byte) : Prop := resultBits v f ∧ flagH f = false ∧ flagPV f = s.cpu.iff2 ∧ flagN f = false ∧
      flagC f = flagC s.cpu.f
    yields .ldIA s { s.cpu with i := s.cpu.a } (·.ldIA) 9 ∧ yields .ldRA s { s.cpu with r := s.cpu.a } (·.ldRA) 9 ∧
    (∃ f, loaded s.cpu.i f ∧ yields .ldAI s { s.cpu with a := s.cpu.i, f := f } (·.ldAI) 9) ∧
    costs (·.ldAR) 9 ∧ ∃ v f free, loaded v f ∧ v.getLsbD 7 = s.cpu.r.getLsbD 7 ∧
      (s.cfg.rPolicy = .m1 → v = s.cpu.r ∧ free = s.free) ∧
      exec .ldAR s = .next { s with free := free, cpu := after s { s.cpu with a := v, f := f } (·.ldAR) }

/-! ## The interrupt (60_exceptions.md) -/

/-- R330, R332: an effective request clears IFF1, IFF2 and HALTED, counts R, pushes `PC`, jumps to IM1_VECTOR, whatever IM
and I hold, and adds INT_COST; an ineffective one changes nothing. -/
def Obligations.InterruptEntry : Prop :=
  ∀ s : State, s.mem.wf →
    (s.cpu.fault ≠ none ∨ s.cpu.iff1 = false → s.interrupt = s) ∧
    (s.cpu.fault = none → s.cpu.iff1 = true → ∃ m,
      s.interrupt = { s with
        mem := m
        cpu := { s.cpu with
          iff1 := false, iff2 := false, halted := false, r := bumpR s.cpu.r, sp := s.cpu.sp - 2
          pc := s.cfg.im1Vector, tstates := s.cpu.tstates + s.cfg.intCost } } ∧
      storedTwo s m (s.cpu.sp - 1) (hiByte s.cpu.pc) (s.cpu.sp - 2) (loByte s.cpu.pc))

/-- R333: RET, RETI and RETN at the end of the handler resume the interrupted program, with the stack in RAM, and leave
interrupts off. -/
def Obligations.ReturnFromInterruptResumes : Prop :=
  ∀ (s : State) (i : Instr), s.mem.wf → s.cpu.fault = none → s.cpu.iff1 = true →
    16384 ≤ (s.cpu.sp - 1).toNat → 16384 ≤ (s.cpu.sp - 2).toNat →
    i = .ret ∨ i = .reti ∨ i = .retn →
    ∃ t, exec i s.interrupt = .next t ∧ t.cpu.pc = s.cpu.pc ∧ t.cpu.sp = s.cpu.sp ∧ t.cpu.iff1 = false ∧
      t.cpu.iff2 = false

/-! ## The tape (60_exceptions.md) -/

/-- R351: the container: complete blocks are parsed, a truncated last one is dropped. -/
def Obligations.TapeContainerParses : Prop :=
  ∀ (blocks : List (List Byte)) (tail : List Byte), (∀ b ∈ blocks, b.length < 65536) →
    (tail.length < 2 ∨ ∃ lo hi rest, tail = lo :: hi :: rest ∧ rest.length < lo.toNat + 256 * hi.toNat) →
    parseTape (blocks.flatMap contained ++ tail) = blocks

/-- R353, R354, R355: a step at the trap address with the tape playing is the fast load. On a flag mismatch, an empty
block or an exhausted tape nothing is copied and C is cleared; on a match the block is consumed, C is set, and in load
mode `min(DE, len - 1)` data bytes are stored from `IX` on, bytes in ROM dropped; then `PC` is popped. -/
def Obligations.FastLoadTrap : Prop :=
  ∀ s : State, s.mem.wf → s.cpu.fault = none → s.tape.playing = true → s.cpu.pc = s.cfg.ldBytesEntry →
    ∃ m f pos, step s = .next { s with
        mem := m
        tape := { s.tape with pos := pos }
        cpu := { s.cpu with
          f := f, sp := s.cpu.sp + 2, tstates := s.cpu.tstates + s.cfg.trapCost
          pc := mkWord (m.read (s.cpu.sp + 1).toNat) (m.read s.cpu.sp.toNat) } } ∧
      flagS f = flagS s.cpu.f ∧ flagZ f = flagZ s.cpu.f ∧ flagY f = flagY s.cpu.f ∧ flagH f = flagH s.cpu.f ∧
      flagX f = flagX s.cpu.f ∧ flagPV f = flagPV s.cpu.f ∧ flagN f = flagN s.cpu.f ∧
      ((∀ data, s.tape.blocks[s.tape.pos]? ≠ some (s.cpu.a :: data)) →
        flagC f = false ∧ pos = s.tape.pos ∧ m = s.mem) ∧
      ∀ data, s.tape.blocks[s.tape.pos]? = some (s.cpu.a :: data) →
        flagC f = true ∧ pos = s.tape.pos + 1 ∧ (flagC s.cpu.f = false → m = s.mem) ∧
        (flagC s.cpu.f = true → ∀ y : Word,
          let k := (y - s.cpu.ix).toNat
          m.read y.toNat =
            if h : k < min s.cpu.de.toNat data.length ∧ 16384 ≤ y.toNat then data[k]'(by omega) else s.memRead y)

/-! ## The frame loop, the video generator and the host (60_exceptions.md, 70_reset_and_hazards.md) -/

/-- R338, R340: what the frame loop does next, in its order: nothing while Stopped; the end of the line while Paused,
faulted or out of budget; a breakpoint hit pauses without a step; else one MachineStep. -/
def Obligations.FrameLoopOrder : Prop :=
  ∀ s : State,
    let target := s.sched.target.getD (s.cpu.tstates + s.cfg.tstatesPerLine)
    (s.sched.mode = .stopped → tick s = .next s) ∧
    (s.sched.mode = .paused → tick s = .next s.endLine) ∧
    (s.sched.mode = .running → s.cpu.fault ≠ none ∨ target ≤ s.cpu.tstates → tick s = .next s.endLine) ∧
    (s.sched.mode = .running → s.cpu.fault = none → s.cpu.tstates < target → s.cpu.pc ∈ s.sched.breakpoints →
      tick s = .next (State.endLine { s with sched := { s.sched with mode := .paused } }) ∧
      tickNotices s = [.breakpointHit s.cpu.pc]) ∧
    (s.sched.mode = .running → s.cpu.fault = none → s.cpu.tstates < target → s.cpu.pc ∉ s.sched.breakpoints →
      tick s = step { s with sched := { s.sched with target := some target } })

/-- R340, R345: the end of a line renders it and goes to the next line; after the last line of a frame a running machine
takes the interrupt, FRAMECOUNT advances, FLASH toggles every 16 frames, autotype takes its step (R357), and line 0 follows.
With `n` frames to go, that step writes to each key the last of the script's events of frame `AUTOTYPE_FRAMES - n + 1` for
it, and the last frame starts the tape; that frames count from 1 since arming is the model's choice
(notes/assumptions/11.md). -/
def Obligations.LineAndFrameEnds : Prop :=
  ∀ s : State,
    let drawn : Video := { s.video with frame := s.video.frame.set s.sched.line (s.scanline s.sched.line) }
    (s.sched.line + 1 < s.cfg.linesPerFrame →
      s.endLine = { s with video := drawn, sched := { s.sched with line := s.sched.line + 1, target := none } }) ∧
    (s.cfg.linesPerFrame ≤ s.sched.line + 1 →
      let irq := if s.sched.mode = .running then s.interrupt else s
      let ended : State := { irq with
        video := { drawn with
          frameCount := s.video.frameCount + 1
          flash := if (s.video.frameCount + 1) % 16 = 0 then !s.video.flash else s.video.flash }
        sched := { s.sched with line := 0, target := none } }
      (s.tape.autotype = .idle → s.endLine = ended) ∧
      ∀ n, s.tape.autotype = .armed n → ∃ kb : Vector Byte 8,
        s.endLine = { ended with
          bus := { s.bus with kb := kb }
          tape := if n ≤ 1 then { s.tape with autotype := .idle, playing := true }
            else { s.tape with autotype := .armed (n - 1) } } ∧
        ∀ row bit : Fin 8, (kb[row]).getLsbD bit.val =
          match (s.cfg.autotypeScript.filter fun ev =>
            ev.frame = s.cfg.autotypeFrames - n + 1 ∧ ev.row = row ∧ ev.bit = bit).getLast? with
          | none => (s.bus.kb[row]).getLsbD bit.val
          | some ev => !ev.press)

/-- R343, R344: while Paused or Stopped the frame loop changes no CPU state, no memory and no tape position; a
single-step while Paused makes a MachineStep that touches no scheduler or video state. -/
def Obligations.PausedMachine : Prop :=
  (∀ s t : State, s.sched.mode ≠ .running → tick s = .next t →
    t.cpu = s.cpu ∧ t.mem = s.mem ∧ t.tape.pos = s.tape.pos ∧ t.bus.border = s.bus.border ∧
      t.sched.mode = s.sched.mode ∧ t.sched.breakpoints = s.sched.breakpoints) ∧
  ∀ s : State, s.sched.mode = .paused →
    ∃ t, hostAct .hostStep s = .next t ∧ step s = .next t ∧ t.sched = s.sched ∧ t.video = s.video

/-- R341, R343: the scheduler's requests; a line resumed right after single-steps on a paused machine gets a full budget
from the T-states then (R343, R344). From Stopped, `stop()` leaves SCHED as it is by the model's choice
(notes/assumptions/21.md). -/
def Obligations.SchedulerRequests : Prop :=
  ∀ s : State,
    hostAct .start s = .next (if s.sched.mode = .stopped then
      { s with sched := { s.sched with mode := .running, line := 0, target := none } } else s) ∧
    hostAct .pause s = .next (if s.sched.mode = .running then
      { s with sched := { s.sched with mode := .paused, target := none } } else s) ∧
    hostAct .resume s = .next (if s.sched.mode = .paused ∧ s.cpu.fault = none then
      { s with sched := { s.sched with mode := .running } } else s) ∧
    hostAct .stop s = .next { s with sched := { s.sched with mode := .stopped, target := none } } ∧
    hostAct .hostStep s = (if s.sched.mode = .paused then step s else .next s) ∧
    (s.sched.mode = .running → s.cpu.fault = none →
      ∃ p t u, hostAct .pause s = .next p ∧ hostAct .hostStep p = .next t ∧ hostAct .resume t = .next u ∧
        (t.cpu.fault = none → u.sched.mode = .running ∧ u.cpu.tstates = t.cpu.tstates ∧
          u.lineTarget = u.cpu.tstates + u.cfg.tstatesPerLine))

/-- R345: the pixels of a rendered row; nothing else of the machine changes, and no other row. -/
def Obligations.RenderedScanline : Prop :=
  ∀ (s : State) (line : Nat), line < s.video.frame.length →
    let t := s.renderScanline line
    let border := s.bus.border.toNat
    let pixel (x : Nat) : Option Nat := (t.video.frame[line]?.bind fun row => row[x]?).map BitVec.toNat
    t = { s with video := { s.video with frame := t.video.frame } } ∧
    (∀ k, k ≠ line → t.video.frame[k]? = s.video.frame[k]?) ∧
    (line < s.cfg.firstDisplayLine ∨ s.cfg.firstDisplayLine + s.cfg.displayLines ≤ line →
      ∀ x, x < s.cfg.borderLeft + 256 + s.cfg.borderRight → pixel x = some border) ∧
    ∀ y, line = s.cfg.firstDisplayLine + y → y < s.cfg.displayLines →
      (∀ x, x < s.cfg.borderLeft → pixel x = some border) ∧
      (∀ x, x < s.cfg.borderRight → pixel (s.cfg.borderLeft + 256 + x) = some border) ∧
      ∀ col k, col < 32 → k < 8 →
        let bits := (s.memRead (bitmapAddr s.cfg y col)).toNat
        let attr := (s.memRead (attrAddr s.cfg y col)).toNat
        let bright := 8 * (attr / 64 % 2)
        let swap := decide (attr / 128 = 1) && s.video.flash
        let ink := (if swap then attr / 8 % 8 else attr % 8) + bright
        let paper := (if swap then attr % 8 else attr / 8 % 8) + bright
        pixel (s.cfg.borderLeft + 8 * col + k) = some (if bits / 2 ^ (7 - k) % 2 = 1 then ink else paper)

/-- R346: the screen addresses: the three segments of `y`, and no two cells share a bitmap byte. -/
def Obligations.ScreenAddresses : Prop :=
  ∀ (c : Config) (y col : Nat), c.bitmapBase = 0x4000 → c.attrBase = 0x5800 → y < 192 → col < 32 →
    (bitmapAddr c y col).toNat = 0x4000 + 2048 * (y / 64) + 256 * (y % 8) + 32 * (y / 8 % 8) + col ∧
    (attrAddr c y col).toNat = 0x5800 + 32 * (y / 8) + col ∧
    ∀ y' col', y' < 192 → col' < 32 → bitmapAddr c y col = bitmapAddr c y' col' → y = y' ∧ col = col'

/-- R400 and the table of 10_state.md R44: the reset sequence. What the spec calls "any value" is constrained only in
the deterministic test mode. -/
def Obligations.ResetSequence : Prop :=
  ∀ s : State,
    let t := s.restart
    t.cpu.pc = 0 ∧ t.cpu.iff1 = false ∧ t.cpu.iff2 = false ∧ t.cpu.im = .im0 ∧ t.cpu.i = 0 ∧ t.cpu.r = 0 ∧
    t.cpu.halted = false ∧ t.cpu.fault = none ∧ t.cpu.tstates = 0 ∧
    t.video.flash = false ∧ t.video.frameCount = 0 ∧ t.sched.line = 0 ∧
    t.bus.kb = s.bus.kb ∧ t.video.frame = s.video.frame ∧ t.sched.breakpoints = s.sched.breakpoints ∧
    t.tape = s.tape ∧ t.cfg = s.cfg ∧
    t.sched.mode = (if s.sched.mode = .stopped then .stopped else .running) ∧
    (∀ a, a < 16384 → t.mem.read a = s.mem.read a) ∧
    (s.cfg.ramResetMode = .zero →
      (∀ a, 16384 ≤ a → t.mem.read a = 0) ∧ t.bus.border = 0 ∧
      (∀ r, t.cpu.reg r = 0) ∧ t.cpu.f = 0 ∧ t.cpu.ix = 0 ∧ t.cpu.iy = 0 ∧ t.cpu.sp = 0xFFFF ∧
      t.cpu.a_ = 0 ∧ t.cpu.f_ = 0 ∧ t.cpu.b_ = 0 ∧ t.cpu.c_ = 0 ∧ t.cpu.d_ = 0 ∧ t.cpu.e_ = 0 ∧ t.cpu.h_ = 0 ∧
      t.cpu.l_ = 0)

/-- R83, R352: `loadRom` copies at most 16384 bytes from address 0 and keeps the rest; `loadImage` is a reset with the new
tape, at its first block and not playing until autotype ends, which with 0 frames is at once. -/
def Obligations.HostLoads : Prop :=
  ∀ s : State, s.mem.wf →
    hostAct (.loadRom none) s = .next s ∧ hostAct (.loadImage none) s = .next s ∧
    (∀ buf, ∃ m, hostAct (.loadRom (some buf)) s = .next { s with mem := m } ∧
      ∀ a : Word, m.read a.toNat = if h : a.toNat < min buf.length 16384 then buf[a.toNat]'(by omega) else s.memRead a) ∧
    ∀ raw, ∃ tape : Tape, hostAct (.loadImage (some raw)) s = .next { s.restart with tape := tape } ∧
      tape.blocks = parseTape raw ∧ tape.pos = 0 ∧ (tape.playing = true ↔ s.cfg.autotypeFrames = 0) ∧
      tape.autotype = if s.cfg.autotypeFrames = 0 then .idle else .armed s.cfg.autotypeFrames

/-- R63, R73, R342, R360: a poke is a store, subject to ROM protection; `setKey` clears one bit of KB and `clearKey` sets
it; a breakpoint request adds, removes or toggles one address of the set. -/
def Obligations.HostEdits : Prop :=
  ∀ s : State, s.mem.wf →
    (∀ x v, ∃ m, hostAct (.poke x v) s = .next { s with mem := m } ∧ storedOne s m x v) ∧
    (∀ row bit : Fin 8, ∃ kb kb' : Vector Byte 8,
      hostAct (.setKey row bit) s = .next { s with bus := { s.bus with kb := kb } } ∧
      hostAct (.clearKey row bit) s = .next { s with bus := { s.bus with kb := kb' } } ∧
      ∀ i k : Fin 8,
        (kb[i]).getLsbD k.val = (if i = row ∧ k = bit then false else (s.bus.kb[i]).getLsbD k.val) ∧
        (kb'[i]).getLsbD k.val = (if i = row ∧ k = bit then true else (s.bus.kb[i]).getLsbD k.val)) ∧
    ∀ x : Word, ∃ added removed toggled : List Word,
      hostAct (.addBreakpoint x) s = .next { s with sched := { s.sched with breakpoints := added } } ∧
      hostAct (.removeBreakpoint x) s = .next { s with sched := { s.sched with breakpoints := removed } } ∧
      hostAct (.toggleBreakpoint x) s = .next { s with sched := { s.sched with breakpoints := toggled } } ∧
      ∀ y, (y ∈ added ↔ y = x ∨ y ∈ s.sched.breakpoints) ∧ (y ∈ removed ↔ y ≠ x ∧ y ∈ s.sched.breakpoints) ∧
        (y ∈ toggled ↔ if y = x then y ∉ s.sched.breakpoints else y ∈ s.sched.breakpoints)

/-- What is told of a write: R63's diagnostic, with `ROM_PROTECT = disallow` alone, for each dropped byte, one after the
other. The writes meant are those of an instruction, which `storeAddresses` lists whole (R67: its memory is the old one with
a byte stored at each, in this order), of a tape copy, of the frame interrupt's push, and a poke's. -/
def Obligations.DroppedWritesAreReported : Prop :=
  (∀ (i : Instr) (s : State), ∃ vs t, exec i s = .next t ∧ vs.length = (storeAddresses i s).length ∧
    t.mem = ((storeAddresses i s).zip vs).foldl (fun m p => m.write p.1 p.2) s.mem) ∧
  ∀ s : State,
    let reported (addrs : List Word) : List Notice :=
      if s.cfg.romProtect = .disallow then (addrs.filter fun x => x.toNat < 16384).map .romWriteDropped else []
    (∀ i, s.trapArmed = false → s.cpu.fault = none → s.cpu.halted = false → s.decodeNext = .ok i →
      actNotices .step s = reported (storeAddresses i (s.fetched i))) ∧
    (s.trapArmed = true → ∀ data, s.tape.blocks[s.tape.pos]? = some (s.cpu.a :: data) → flagC s.cpu.f = true →
      actNotices .step s =
        reported ((List.range (min s.cpu.de.toNat data.length)).map fun k => s.cpu.ix + BitVec.ofNat 16 k)) ∧
    (s.trapArmed = true → (∀ data, s.tape.blocks[s.tape.pos]? ≠ some (s.cpu.a :: data)) ∨ flagC s.cpu.f = false →
      actNotices .step s = []) ∧
    (s.sched.mode = .paused → actNotices (.host .hostStep) s = actNotices .step s) ∧
    (s.sched.mode = .running → s.cpu.fault = none → s.lineTarget ≤ s.cpu.tstates →
      s.cfg.linesPerFrame ≤ s.sched.line + 1 →
      actNotices .tick s = if s.cpu.iff1 = true then reported [s.cpu.sp - 1, s.cpu.sp - 2] else []) ∧
    ∀ x v, actNotices (.host (.poke x v)) s = reported [x]
end

