-- ==== Sys2Proof/Laws/Flags.lean ====
section
/-! SUPPORT. The laws of the flag helpers: reading a packed flag gives it back, and what each flag rule leaves in each
flag (10_state.md R27 to R30). -/

namespace Sys2Proof.Machine

@[simp] theorem flagS_packFlags (s z y h x pv n c : Bool) : flagS (packFlags s z y h x pv n c) = s := by
  cases s <;> cases z <;> cases y <;> cases h <;> cases x <;> cases pv <;> cases n <;> cases c <;> rfl

@[simp] theorem flagZ_packFlags (s z y h x pv n c : Bool) : flagZ (packFlags s z y h x pv n c) = z := by
  cases s <;> cases z <;> cases y <;> cases h <;> cases x <;> cases pv <;> cases n <;> cases c <;> rfl

@[simp] theorem flagY_packFlags (s z y h x pv n c : Bool) : flagY (packFlags s z y h x pv n c) = y := by
  cases s <;> cases z <;> cases y <;> cases h <;> cases x <;> cases pv <;> cases n <;> cases c <;> rfl

@[simp] theorem flagH_packFlags (s z y h x pv n c : Bool) : flagH (packFlags s z y h x pv n c) = h := by
  cases s <;> cases z <;> cases y <;> cases h <;> cases x <;> cases pv <;> cases n <;> cases c <;> rfl

@[simp] theorem flagX_packFlags (s z y h x pv n c : Bool) : flagX (packFlags s z y h x pv n c) = x := by
  cases s <;> cases z <;> cases y <;> cases h <;> cases x <;> cases pv <;> cases n <;> cases c <;> rfl

@[simp] theorem flagPV_packFlags (s z y h x pv n c : Bool) : flagPV (packFlags s z y h x pv n c) = pv := by
  cases s <;> cases z <;> cases y <;> cases h <;> cases x <;> cases pv <;> cases n <;> cases c <;> rfl

@[simp] theorem flagN_packFlags (s z y h x pv n c : Bool) : flagN (packFlags s z y h x pv n c) = n := by
  cases s <;> cases z <;> cases y <;> cases h <;> cases x <;> cases pv <;> cases n <;> cases c <;> rfl

@[simp] theorem flagC_packFlags (s z y h x pv n c : Bool) : flagC (packFlags s z y h x pv n c) = c := by
  cases s <;> cases z <;> cases y <;> cases h <;> cases x <;> cases pv <;> cases n <;> cases c <;> rfl

/-- `F` is its eight flags. -/
theorem packFlags_flags (f : Byte) :
    packFlags (flagS f) (flagZ f) (flagY f) (flagH f) (flagX f) (flagPV f) (flagN f) (flagC f) = f := by
  revert f; decide

/-- Two flag bytes with the same eight flags are equal. -/
theorem flags_ext (f g : Byte) (hS : flagS f = flagS g) (hZ : flagZ f = flagZ g) (hY : flagY f = flagY g)
    (hH : flagH f = flagH g) (hX : flagX f = flagX g) (hPV : flagPV f = flagPV g) (hN : flagN f = flagN g)
    (hC : flagC f = flagC g) : f = g := by
  rw [← packFlags_flags f, ← packFlags_flags g, hS, hZ, hY, hH, hX, hPV, hN, hC]

@[simp] theorem flagS_resultFlags (res : Byte) (h pv n c : Bool) : flagS (resultFlags res h pv n c) = res.getLsbD 7 := by
  simp [resultFlags]

@[simp] theorem flagZ_resultFlags (res : Byte) (h pv n c : Bool) : flagZ (resultFlags res h pv n c) = (res == 0#8) := by
  simp [resultFlags]

@[simp] theorem flagY_resultFlags (res : Byte) (h pv n c : Bool) : flagY (resultFlags res h pv n c) = res.getLsbD 5 := by
  simp [resultFlags]

@[simp] theorem flagH_resultFlags (res : Byte) (h pv n c : Bool) : flagH (resultFlags res h pv n c) = h := by
  simp [resultFlags]

@[simp] theorem flagX_resultFlags (res : Byte) (h pv n c : Bool) : flagX (resultFlags res h pv n c) = res.getLsbD 3 := by
  simp [resultFlags]

@[simp] theorem flagPV_resultFlags (res : Byte) (h pv n c : Bool) : flagPV (resultFlags res h pv n c) = pv := by
  simp [resultFlags]

@[simp] theorem flagN_resultFlags (res : Byte) (h pv n c : Bool) : flagN (resultFlags res h pv n c) = n := by
  simp [resultFlags]

@[simp] theorem flagC_resultFlags (res : Byte) (h pv n c : Bool) : flagC (resultFlags res h pv n c) = c := by
  simp [resultFlags]

@[simp] theorem flagS_accFlags (acc f : Byte) (h n c : Bool) : flagS (accFlags acc f h n c) = flagS f := by
  simp [accFlags]

@[simp] theorem flagZ_accFlags (acc f : Byte) (h n c : Bool) : flagZ (accFlags acc f h n c) = flagZ f := by
  simp [accFlags]

@[simp] theorem flagY_accFlags (acc f : Byte) (h n c : Bool) : flagY (accFlags acc f h n c) = acc.getLsbD 5 := by
  simp [accFlags]

@[simp] theorem flagH_accFlags (acc f : Byte) (h n c : Bool) : flagH (accFlags acc f h n c) = h := by
  simp [accFlags]

@[simp] theorem flagX_accFlags (acc f : Byte) (h n c : Bool) : flagX (accFlags acc f h n c) = acc.getLsbD 3 := by
  simp [accFlags]

@[simp] theorem flagPV_accFlags (acc f : Byte) (h n c : Bool) : flagPV (accFlags acc f h n c) = flagPV f := by
  simp [accFlags]

@[simp] theorem flagN_accFlags (acc f : Byte) (h n c : Bool) : flagN (accFlags acc f h n c) = n := by
  simp [accFlags]

@[simp] theorem flagC_accFlags (acc f : Byte) (h n c : Bool) : flagC (accFlags acc f h n c) = c := by
  simp [accFlags]

@[simp] theorem flagS_blockFlags (f : Byte) (pv : Bool) : flagS (blockFlags f pv) = flagS f := by
  simp [blockFlags]

@[simp] theorem flagZ_blockFlags (f : Byte) (pv : Bool) : flagZ (blockFlags f pv) = flagZ f := by
  simp [blockFlags]

@[simp] theorem flagY_blockFlags (f : Byte) (pv : Bool) : flagY (blockFlags f pv) = flagY f := by
  simp [blockFlags]

@[simp] theorem flagH_blockFlags (f : Byte) (pv : Bool) : flagH (blockFlags f pv) = false := by
  simp [blockFlags]

@[simp] theorem flagX_blockFlags (f : Byte) (pv : Bool) : flagX (blockFlags f pv) = flagX f := by
  simp [blockFlags]

@[simp] theorem flagPV_blockFlags (f : Byte) (pv : Bool) : flagPV (blockFlags f pv) = pv := by
  simp [blockFlags]

@[simp] theorem flagN_blockFlags (f : Byte) (pv : Bool) : flagN (blockFlags f pv) = false := by
  simp [blockFlags]

@[simp] theorem flagC_blockFlags (f : Byte) (pv : Bool) : flagC (blockFlags f pv) = flagC f := by
  simp [blockFlags]

@[simp] theorem flagS_bitFlags (f v : Byte) (b : BitVec 3) : flagS (bitFlags f v b) = flagS f := by
  simp [bitFlags]

@[simp] theorem flagZ_bitFlags (f v : Byte) (b : BitVec 3) : flagZ (bitFlags f v b) = (!v.getLsbD b.toNat) := by
  simp [bitFlags]

@[simp] theorem flagY_bitFlags (f v : Byte) (b : BitVec 3) : flagY (bitFlags f v b) = flagY f := by
  simp [bitFlags]

@[simp] theorem flagH_bitFlags (f v : Byte) (b : BitVec 3) : flagH (bitFlags f v b) = true := by
  simp [bitFlags]

@[simp] theorem flagX_bitFlags (f v : Byte) (b : BitVec 3) : flagX (bitFlags f v b) = flagX f := by
  simp [bitFlags]

@[simp] theorem flagPV_bitFlags (f v : Byte) (b : BitVec 3) : flagPV (bitFlags f v b) = flagPV f := by
  simp [bitFlags]

@[simp] theorem flagN_bitFlags (f v : Byte) (b : BitVec 3) : flagN (bitFlags f v b) = false := by
  simp [bitFlags]

@[simp] theorem flagC_bitFlags (f v : Byte) (b : BitVec 3) : flagC (bitFlags f v b) = flagC f := by
  simp [bitFlags]

@[simp] theorem flagS_withCarry (f : Byte) (c : Bool) : flagS (withCarry f c) = flagS f := by
  simp [withCarry]

@[simp] theorem flagZ_withCarry (f : Byte) (c : Bool) : flagZ (withCarry f c) = flagZ f := by
  simp [withCarry]

@[simp] theorem flagY_withCarry (f : Byte) (c : Bool) : flagY (withCarry f c) = flagY f := by
  simp [withCarry]

@[simp] theorem flagH_withCarry (f : Byte) (c : Bool) : flagH (withCarry f c) = flagH f := by
  simp [withCarry]

@[simp] theorem flagX_withCarry (f : Byte) (c : Bool) : flagX (withCarry f c) = flagX f := by
  simp [withCarry]

@[simp] theorem flagPV_withCarry (f : Byte) (c : Bool) : flagPV (withCarry f c) = flagPV f := by
  simp [withCarry]

@[simp] theorem flagN_withCarry (f : Byte) (c : Bool) : flagN (withCarry f c) = flagN f := by
  simp [withCarry]

@[simp] theorem flagC_withCarry (f : Byte) (c : Bool) : flagC (withCarry f c) = c := by
  simp [withCarry]

/-- The result of `Add8` is the sum modulo 256. -/
theorem add8_fst (a b : Byte) (cin : Bool) : (add8 a b cin).1 = a + b + BitVec.ofNat 8 (carryIn cin) := by
  apply BitVec.eq_of_toNat_eq
  cases cin <;> simp [add8, carryIn, BitVec.toNat_add]

/-- The result of `Sub8` is the difference modulo 256. -/
theorem sub8_fst (a b : Byte) (cin : Bool) : (sub8 a b cin).1 = a - b - BitVec.ofNat 8 (carryIn cin) := by
  apply BitVec.eq_of_toNat_eq
  have ha := a.isLt
  have hb := b.isLt
  cases cin <;> simp only [sub8, carryIn, BitVec.toNat_sub, BitVec.toNat_ofInt, BitVec.toNat_ofNat] <;> simp <;> omega

end Sys2Proof.Machine
end

