-- ==== Sys2Proof/Laws/Memory.lean ====
section
/-! SUPPORT. The laws of memory: read after write, the canonical form is kept by every operation, equal reads mean
equal memories, ROM is never written by a store. -/

namespace Sys2Proof.Machine

@[simp] theorem Memory.read_nil (k : Nat) : Memory.read [] k = Memory.unlisted := rfl

theorem Memory.read_cons (a : Nat) (v : Byte) (m : Memory) (k : Nat) :
    Memory.read ((a, v) :: m) k = if a = k then v else Memory.read m k := rfl

/-- An address that no entry names reads as unlisted. -/
theorem Memory.read_of_not_listed (m : Memory) (k : Nat) (h : ∀ p ∈ m, p.1 ≠ k) : m.read k = Memory.unlisted := by
  induction m with
  | nil => rfl
  | cons p m ih =>
    rw [Memory.read_cons, if_neg (h p (by simp))]
    exact ih fun q hq => h q (by simp [hq])

/-- Below the first address of a rising list nothing is listed. -/
theorem Memory.read_below (m : Memory) (k : Nat) (h : ∀ p ∈ m, k < p.1) : m.read k = Memory.unlisted :=
  m.read_of_not_listed k fun p hp => by have := h p hp; omega

/-- Read after set, in a rising memory. -/
theorem Memory.read_set (m : Memory) (hm : m.Pairwise fun p q => p.1 < q.1) (k x : Nat) (v : Byte) :
    (m.set k v).read x = if x = k then v else m.read x := by
  induction m with
  | nil =>
    unfold Memory.set
    split <;> by_cases hx : x = k <;> simp_all [Memory.read_cons, eq_comm]
  | cons p m ih =>
    obtain ⟨a, w⟩ := p
    have hrest := (List.pairwise_cons.1 hm).1
    have ih := ih (List.pairwise_cons.1 hm).2
    unfold Memory.set
    by_cases hka : k < a
    · have hbelow : Memory.read ((a, w) :: m) k = Memory.unlisted := by
        apply Memory.read_below
        intro q hq
        rcases List.mem_cons.1 hq with rfl | hq
        · exact hka
        · exact lt_trans hka (hrest q hq)
      rw [if_pos hka]
      split
      · by_cases hx : x = k
        · rw [if_pos hx, hx, hbelow]; simp_all
        · rw [if_neg hx]
      · rw [Memory.read_cons]
        by_cases hx : x = k
        · simp [hx]
        · rw [if_neg (Ne.symm hx), if_neg hx]
    · rw [if_neg hka]
      by_cases hk : k = a
      · subst hk
        rw [if_pos rfl]
        split
        · by_cases hx : x = k
          · rw [if_pos hx, hx, Memory.read_below m k (fun q hq => hrest q hq)]; simp_all
          · rw [if_neg hx, Memory.read_cons, if_neg (Ne.symm hx)]
        · rw [Memory.read_cons, Memory.read_cons]
          by_cases hx : x = k
          · simp [hx]
          · rw [if_neg (Ne.symm hx), if_neg hx, if_neg (Ne.symm hx)]
      · rw [if_neg hk, Memory.read_cons, ih, Memory.read_cons]
        by_cases hx : x = k
        · rw [if_pos hx, hx, if_neg (Ne.symm hk), if_pos rfl]
        · rw [if_neg hx, if_neg hx]

/-- An entry after a set is the new one or was there before. -/
theorem Memory.mem_set (m : Memory) (k : Nat) (v : Byte) (p : Host.Cell) (hp : p ∈ m.set k v) :
    (p = (k, v) ∧ v ≠ Memory.unlisted) ∨ p ∈ m := by
  induction m with
  | nil =>
    unfold Memory.set at hp
    split at hp <;> simp_all
  | cons q m ih =>
    obtain ⟨a, w⟩ := q
    unfold Memory.set at hp
    split at hp
    · split at hp
      · exact .inr hp
      · rcases List.mem_cons.1 hp with rfl | hp
        · exact .inl ⟨rfl, ‹_›⟩
        · exact .inr hp
    · split at hp
      · split at hp
        · exact .inr (List.mem_cons_of_mem _ hp)
        · rcases List.mem_cons.1 hp with rfl | hp
          · exact .inl ⟨rfl, ‹_›⟩
          · exact .inr (List.mem_cons_of_mem _ hp)
      · rcases List.mem_cons.1 hp with rfl | hp
        · exact .inr (by simp)
        · exact (ih hp).imp_right (List.mem_cons_of_mem _)

/-- Set keeps the addresses rising. -/
theorem Memory.rising_set (m : Memory) (hm : m.Pairwise fun p q => p.1 < q.1) (k : Nat) (v : Byte) :
    (m.set k v).Pairwise fun p q => p.1 < q.1 := by
  induction m with
  | nil => unfold Memory.set; split <;> simp
  | cons q m ih =>
    obtain ⟨a, w⟩ := q
    have hrest := (List.pairwise_cons.1 hm).1
    have htail := (List.pairwise_cons.1 hm).2
    unfold Memory.set
    by_cases hka : k < a
    · rw [if_pos hka]
      split
      · exact hm
      · refine List.pairwise_cons.2 ⟨fun r hr => ?_, hm⟩
        rcases List.mem_cons.1 hr with rfl | hr
        · exact hka
        · exact lt_trans hka (hrest r hr)
    · rw [if_neg hka]
      by_cases hk : k = a
      · rw [if_pos hk]
        split
        · exact htail
        · exact List.pairwise_cons.2 ⟨fun r hr => hk ▸ hrest r hr, htail⟩
      · rw [if_neg hk]
        refine List.pairwise_cons.2 ⟨fun r hr => ?_, ih htail⟩
        rcases Memory.mem_set m k v r hr with ⟨rfl, -⟩ | hr
        · show a < k; omega
        · exact hrest r hr

/-- Set keeps the canonical form, at an address of the address space. -/
theorem Memory.wf_set (m : Memory) (hm : m.wf) (k : Nat) (hk : k < memSize) (v : Byte) : (m.set k v).wf := by
  refine ⟨Memory.rising_set m hm.1 k v, fun p hp => ?_⟩
  rcases Memory.mem_set m k v p hp with ⟨rfl, hv⟩ | hp
  · exact ⟨hv, hk⟩
  · exact hm.2 p hp

theorem Word.toNat_lt_memSize (x : Word) : x.toNat < memSize := x.isLt

/-- `MemWrite` keeps the canonical form. -/
theorem Memory.wf_write (m : Memory) (hm : m.wf) (x : Word) (v : Byte) : (m.write x v).wf := by
  unfold Memory.write
  split
  · exact hm
  · exact Memory.wf_set m hm _ (Word.toNat_lt_memSize x) v

/-- Read after `MemWrite` (20_memory.md R63): the byte written, unless the address is in ROM or another. -/
theorem Memory.read_write (m : Memory) (hm : m.wf) (x y : Word) (v : Byte) :
    (m.write x v).read y.toNat = if y = x ∧ romSize ≤ x.toNat then v else m.read y.toNat := by
  unfold Memory.write
  by_cases hx : x.toNat < romSize
  · rw [if_pos hx, if_neg (by omega)]
  · rw [if_neg hx, Memory.read_set m hm.1]
    have : y.toNat = x.toNat ↔ y = x := ⟨BitVec.eq_of_toNat_eq, fun h => h ▸ rfl⟩
    by_cases hyx : y = x <;> simp_all

/-- `MemWrite` never changes ROM (20_memory.md R63). -/
theorem Memory.read_write_rom (m : Memory) (x : Word) (v : Byte) (k : Nat) (hk : k < romSize)
    (hm : m.Pairwise fun p q => p.1 < q.1) : (m.write x v).read k = m.read k := by
  unfold Memory.write
  split
  · rfl
  · rw [Memory.read_set m hm, if_neg (by omega)]

/-- Storing several bytes keeps the canonical form. -/
theorem Memory.wf_writeBytes (vs : List Byte) (m : Memory) (hm : m.wf) (x : Word) : (m.writeBytes x vs).wf := by
  induction vs generalizing m x with
  | nil => exact hm
  | cons v vs ih => exact ih _ (Memory.wf_write m hm x v) _

/-- Placing bytes from outside keeps the canonical form. -/
theorem Memory.wf_place (vs : List Byte) (m : Memory) (hm : m.wf) (x : Word) : (m.place x vs).wf := by
  induction vs generalizing m x with
  | nil => exact hm
  | cons v vs ih => exact ih _ (Memory.wf_set m hm _ (Word.toNat_lt_memSize x) v) _

/-- Storing several bytes never changes ROM. -/
theorem Memory.read_writeBytes_rom (vs : List Byte) (m : Memory) (hm : m.wf) (x : Word) (k : Nat) (hk : k < romSize) :
    (m.writeBytes x vs).read k = m.read k := by
  induction vs generalizing m x with
  | nil => rfl
  | cons v vs ih =>
    rw [Memory.writeBytes, ih _ (Memory.wf_write m hm x v), Memory.read_write_rom m x v k hk hm.1]

/-- The ROM part reads as before in ROM. -/
theorem Memory.read_romPart (m : Memory) (k : Nat) (hk : k < romSize) : m.romPart.read k = m.read k := by
  induction m with
  | nil => rfl
  | cons p m ih =>
    obtain ⟨a, v⟩ := p
    unfold Memory.romPart at ih ⊢
    by_cases ha : a < romSize
    · rw [List.filter_cons_of_pos (by simpa using ha), Memory.read_cons, Memory.read_cons, ih]
    · rw [List.filter_cons_of_neg (by simpa using ha), ih, Memory.read_cons, if_neg (by omega)]

/-- Every entry of the noise is a non-zero byte of RAM. -/
theorem mem_noiseRam (draw : Nat) (p : Host.Cell) (hp : p ∈ noiseRam draw) :
    p.2 ≠ Memory.unlisted ∧ romSize ≤ p.1 ∧ p.1 < memSize := by
  unfold noiseRam at hp
  obtain ⟨a, ha, h⟩ := List.mem_filterMap.1 hp
  rw [List.mem_range'_1] at ha
  split at h
  · simp at h
  · obtain rfl := Option.some.inj h
    refine ⟨‹_›, ha.1, ?_⟩
    have : romSize + (memSize - romSize) = memSize := by decide
    omega

/-- The noise lists its addresses rising. -/
theorem noiseRam_rising (draw : Nat) : (noiseRam draw).Pairwise fun p q => p.1 < q.1 := by
  unfold noiseRam
  rw [List.pairwise_filterMap]
  refine List.Pairwise.imp (fun {a b} hab p hp q hq => ?_) (List.pairwise_lt_range' (step := 1) (by decide))
  split at hp <;> split at hq <;> simp_all
  subst hp; subst hq; exact hab

/-- Reset keeps the canonical form. -/
theorem Memory.wf_afterReset (m : Memory) (hm : m.wf) (mode : RamResetMode) (draw : Nat) :
    (m.afterReset mode draw).wf := by
  have hrom : m.romPart.wf :=
    ⟨hm.1.sublist List.filter_sublist, fun p hp => hm.2 p (List.mem_of_mem_filter hp)⟩
  cases mode with
  | zero => exact hrom
  | noise =>
    refine ⟨List.pairwise_append.2 ⟨hrom.1, noiseRam_rising draw, fun p hp q hq => ?_⟩, fun p hp => ?_⟩
    · have h1 := (List.mem_filter.1 hp).2
      have h2 := (mem_noiseRam draw q hq).2.1
      simp at h1
      omega
    · rcases List.mem_append.1 hp with hp | hp
      · exact hrom.2 p hp
      · exact ⟨(mem_noiseRam draw p hp).1, (mem_noiseRam draw p hp).2.2⟩

end Sys2Proof.Machine
end

