-- ==== Sys2Proof/Laws/State.lean ====
section
/-! SUPPORT. What each shared update leaves in each field, so that no later proof unfolds a record update. -/

namespace Sys2Proof.Machine

@[simp] theorem State.withCpu_cpu (s : State) (c : Cpu) : (s.withCpu c).cpu = c := rfl
@[simp] theorem State.withCpu_mem (s : State) (c : Cpu) : (s.withCpu c).mem = s.mem := rfl
@[simp] theorem State.withCpu_bus (s : State) (c : Cpu) : (s.withCpu c).bus = s.bus := rfl
@[simp] theorem State.withCpu_video (s : State) (c : Cpu) : (s.withCpu c).video = s.video := rfl
@[simp] theorem State.withCpu_tape (s : State) (c : Cpu) : (s.withCpu c).tape = s.tape := rfl
@[simp] theorem State.withCpu_sched (s : State) (c : Cpu) : (s.withCpu c).sched = s.sched := rfl
@[simp] theorem State.withCpu_cfg (s : State) (c : Cpu) : (s.withCpu c).cfg = s.cfg := rfl
@[simp] theorem State.withCpu_free (s : State) (c : Cpu) : (s.withCpu c).free = s.free := rfl

@[simp] theorem State.charge_cpu (s : State) (n : Nat) : (s.charge n).cpu = { s.cpu with tstates := s.cpu.tstates + n } := rfl
@[simp] theorem State.charge_mem (s : State) (n : Nat) : (s.charge n).mem = s.mem := rfl
@[simp] theorem State.charge_bus (s : State) (n : Nat) : (s.charge n).bus = s.bus := rfl
@[simp] theorem State.charge_video (s : State) (n : Nat) : (s.charge n).video = s.video := rfl
@[simp] theorem State.charge_tape (s : State) (n : Nat) : (s.charge n).tape = s.tape := rfl
@[simp] theorem State.charge_sched (s : State) (n : Nat) : (s.charge n).sched = s.sched := rfl
@[simp] theorem State.charge_cfg (s : State) (n : Nat) : (s.charge n).cfg = s.cfg := rfl
@[simp] theorem State.charge_free (s : State) (n : Nat) : (s.charge n).free = s.free := rfl

@[simp] theorem State.setPc_cpu (s : State) (p : Word) : (s.setPc p).cpu = { s.cpu with pc := p } := rfl
@[simp] theorem State.setPc_mem (s : State) (p : Word) : (s.setPc p).mem = s.mem := rfl
@[simp] theorem State.setPc_bus (s : State) (p : Word) : (s.setPc p).bus = s.bus := rfl
@[simp] theorem State.setPc_video (s : State) (p : Word) : (s.setPc p).video = s.video := rfl
@[simp] theorem State.setPc_tape (s : State) (p : Word) : (s.setPc p).tape = s.tape := rfl
@[simp] theorem State.setPc_sched (s : State) (p : Word) : (s.setPc p).sched = s.sched := rfl
@[simp] theorem State.setPc_cfg (s : State) (p : Word) : (s.setPc p).cfg = s.cfg := rfl
@[simp] theorem State.setPc_free (s : State) (p : Word) : (s.setPc p).free = s.free := rfl

@[simp] theorem State.advanceR_cpu (s : State) : (s.advanceR).cpu = { s.cpu with r := bumpR s.cpu.r } := rfl
@[simp] theorem State.advanceR_mem (s : State) : (s.advanceR).mem = s.mem := rfl
@[simp] theorem State.advanceR_bus (s : State) : (s.advanceR).bus = s.bus := rfl
@[simp] theorem State.advanceR_video (s : State) : (s.advanceR).video = s.video := rfl
@[simp] theorem State.advanceR_tape (s : State) : (s.advanceR).tape = s.tape := rfl
@[simp] theorem State.advanceR_sched (s : State) : (s.advanceR).sched = s.sched := rfl
@[simp] theorem State.advanceR_cfg (s : State) : (s.advanceR).cfg = s.cfg := rfl
@[simp] theorem State.advanceR_free (s : State) : (s.advanceR).free = s.free := rfl

@[simp] theorem State.memWrite_cpu (s : State) (x : Word) (v : Byte) : (s.memWrite x v).cpu = s.cpu := rfl
@[simp] theorem State.memWrite_mem (s : State) (x : Word) (v : Byte) : (s.memWrite x v).mem = s.mem.write x v := rfl
@[simp] theorem State.memWrite_bus (s : State) (x : Word) (v : Byte) : (s.memWrite x v).bus = s.bus := rfl
@[simp] theorem State.memWrite_video (s : State) (x : Word) (v : Byte) : (s.memWrite x v).video = s.video := rfl
@[simp] theorem State.memWrite_tape (s : State) (x : Word) (v : Byte) : (s.memWrite x v).tape = s.tape := rfl
@[simp] theorem State.memWrite_sched (s : State) (x : Word) (v : Byte) : (s.memWrite x v).sched = s.sched := rfl
@[simp] theorem State.memWrite_cfg (s : State) (x : Word) (v : Byte) : (s.memWrite x v).cfg = s.cfg := rfl
@[simp] theorem State.memWrite_free (s : State) (x : Word) (v : Byte) : (s.memWrite x v).free = s.free := rfl

@[simp] theorem State.memWrite16_cpu (s : State) (x v : Word) : (s.memWrite16 x v).cpu = s.cpu := rfl
@[simp] theorem State.memWrite16_mem (s : State) (x v : Word) : (s.memWrite16 x v).mem = (s.mem.write x (loByte v)).write (x + 1) (hiByte v) := rfl
@[simp] theorem State.memWrite16_bus (s : State) (x v : Word) : (s.memWrite16 x v).bus = s.bus := rfl
@[simp] theorem State.memWrite16_video (s : State) (x v : Word) : (s.memWrite16 x v).video = s.video := rfl
@[simp] theorem State.memWrite16_tape (s : State) (x v : Word) : (s.memWrite16 x v).tape = s.tape := rfl
@[simp] theorem State.memWrite16_sched (s : State) (x v : Word) : (s.memWrite16 x v).sched = s.sched := rfl
@[simp] theorem State.memWrite16_cfg (s : State) (x v : Word) : (s.memWrite16 x v).cfg = s.cfg := rfl
@[simp] theorem State.memWrite16_free (s : State) (x v : Word) : (s.memWrite16 x v).free = s.free := rfl

@[simp] theorem State.writeHl_cpu (s : State) (v : Byte) : (s.writeHl v).cpu = s.cpu := rfl
@[simp] theorem State.writeHl_mem (s : State) (v : Byte) : (s.writeHl v).mem = s.mem.write s.cpu.hl v := rfl
@[simp] theorem State.writeHl_bus (s : State) (v : Byte) : (s.writeHl v).bus = s.bus := rfl
@[simp] theorem State.writeHl_video (s : State) (v : Byte) : (s.writeHl v).video = s.video := rfl
@[simp] theorem State.writeHl_tape (s : State) (v : Byte) : (s.writeHl v).tape = s.tape := rfl
@[simp] theorem State.writeHl_sched (s : State) (v : Byte) : (s.writeHl v).sched = s.sched := rfl
@[simp] theorem State.writeHl_cfg (s : State) (v : Byte) : (s.writeHl v).cfg = s.cfg := rfl
@[simp] theorem State.writeHl_free (s : State) (v : Byte) : (s.writeHl v).free = s.free := rfl

@[simp] theorem State.push16_cpu (s : State) (v : Word) : (s.push16 v).cpu = { s.cpu with sp := s.cpu.sp - 1 - 1 } := rfl
@[simp] theorem State.push16_mem (s : State) (v : Word) : (s.push16 v).mem = (s.mem.write (s.cpu.sp - 1) (hiByte v)).write (s.cpu.sp - 1 - 1) (loByte v) := rfl
@[simp] theorem State.push16_bus (s : State) (v : Word) : (s.push16 v).bus = s.bus := rfl
@[simp] theorem State.push16_video (s : State) (v : Word) : (s.push16 v).video = s.video := rfl
@[simp] theorem State.push16_tape (s : State) (v : Word) : (s.push16 v).tape = s.tape := rfl
@[simp] theorem State.push16_sched (s : State) (v : Word) : (s.push16 v).sched = s.sched := rfl
@[simp] theorem State.push16_cfg (s : State) (v : Word) : (s.push16 v).cfg = s.cfg := rfl
@[simp] theorem State.push16_free (s : State) (v : Word) : (s.push16 v).free = s.free := rfl

@[simp] theorem State.dropStack_cpu (s : State) : (s.dropStack).cpu = { s.cpu with sp := s.cpu.sp + 2 } := rfl
@[simp] theorem State.dropStack_mem (s : State) : (s.dropStack).mem = s.mem := rfl
@[simp] theorem State.dropStack_bus (s : State) : (s.dropStack).bus = s.bus := rfl
@[simp] theorem State.dropStack_video (s : State) : (s.dropStack).video = s.video := rfl
@[simp] theorem State.dropStack_tape (s : State) : (s.dropStack).tape = s.tape := rfl
@[simp] theorem State.dropStack_sched (s : State) : (s.dropStack).sched = s.sched := rfl
@[simp] theorem State.dropStack_cfg (s : State) : (s.dropStack).cfg = s.cfg := rfl
@[simp] theorem State.dropStack_free (s : State) : (s.dropStack).free = s.free := rfl

@[simp] theorem State.ret_cpu (s : State) : (s.ret).cpu = { s.cpu with sp := s.cpu.sp + 2, pc := s.stackTop } := rfl
@[simp] theorem State.ret_mem (s : State) : (s.ret).mem = s.mem := rfl
@[simp] theorem State.ret_bus (s : State) : (s.ret).bus = s.bus := rfl
@[simp] theorem State.ret_video (s : State) : (s.ret).video = s.video := rfl
@[simp] theorem State.ret_tape (s : State) : (s.ret).tape = s.tape := rfl
@[simp] theorem State.ret_sched (s : State) : (s.ret).sched = s.sched := rfl
@[simp] theorem State.ret_cfg (s : State) : (s.ret).cfg = s.cfg := rfl
@[simp] theorem State.ret_free (s : State) : (s.ret).free = s.free := rfl

@[simp] theorem State.call_cpu (s : State) (p : Word) : (s.call p).cpu = { s.cpu with sp := s.cpu.sp - 1 - 1, pc := p } := rfl
@[simp] theorem State.call_mem (s : State) (p : Word) : (s.call p).mem = (s.mem.write (s.cpu.sp - 1) (hiByte s.cpu.pc)).write (s.cpu.sp - 1 - 1) (loByte s.cpu.pc) := rfl
@[simp] theorem State.call_bus (s : State) (p : Word) : (s.call p).bus = s.bus := rfl
@[simp] theorem State.call_video (s : State) (p : Word) : (s.call p).video = s.video := rfl
@[simp] theorem State.call_tape (s : State) (p : Word) : (s.call p).tape = s.tape := rfl
@[simp] theorem State.call_sched (s : State) (p : Word) : (s.call p).sched = s.sched := rfl
@[simp] theorem State.call_cfg (s : State) (p : Word) : (s.call p).cfg = s.cfg := rfl
@[simp] theorem State.call_free (s : State) (p : Word) : (s.call p).free = s.free := rfl

@[simp] theorem State.setAF_cpu (s : State) (out : Byte × Byte) : (s.setAF out).cpu = { s.cpu with a := out.1, f := out.2 } := rfl
@[simp] theorem State.setAF_mem (s : State) (out : Byte × Byte) : (s.setAF out).mem = s.mem := rfl
@[simp] theorem State.setAF_bus (s : State) (out : Byte × Byte) : (s.setAF out).bus = s.bus := rfl
@[simp] theorem State.setAF_video (s : State) (out : Byte × Byte) : (s.setAF out).video = s.video := rfl
@[simp] theorem State.setAF_tape (s : State) (out : Byte × Byte) : (s.setAF out).tape = s.tape := rfl
@[simp] theorem State.setAF_sched (s : State) (out : Byte × Byte) : (s.setAF out).sched = s.sched := rfl
@[simp] theorem State.setAF_cfg (s : State) (out : Byte × Byte) : (s.setAF out).cfg = s.cfg := rfl
@[simp] theorem State.setAF_free (s : State) (out : Byte × Byte) : (s.setAF out).free = s.free := rfl

@[simp] theorem State.setF_cpu (s : State) (f : Byte) : (s.setF f).cpu = { s.cpu with f := f } := rfl
@[simp] theorem State.setF_mem (s : State) (f : Byte) : (s.setF f).mem = s.mem := rfl
@[simp] theorem State.setF_bus (s : State) (f : Byte) : (s.setF f).bus = s.bus := rfl
@[simp] theorem State.setF_video (s : State) (f : Byte) : (s.setF f).video = s.video := rfl
@[simp] theorem State.setF_tape (s : State) (f : Byte) : (s.setF f).tape = s.tape := rfl
@[simp] theorem State.setF_sched (s : State) (f : Byte) : (s.setF f).sched = s.sched := rfl
@[simp] theorem State.setF_cfg (s : State) (f : Byte) : (s.setF f).cfg = s.cfg := rfl
@[simp] theorem State.setF_free (s : State) (f : Byte) : (s.setF f).free = s.free := rfl

@[simp] theorem State.jumpRel_cpu (s : State) (d : Byte) : (s.jumpRel d).cpu = { s.cpu with pc := s.cpu.pc + sext8 d } := rfl
@[simp] theorem State.jumpRel_mem (s : State) (d : Byte) : (s.jumpRel d).mem = s.mem := rfl
@[simp] theorem State.jumpRel_bus (s : State) (d : Byte) : (s.jumpRel d).bus = s.bus := rfl
@[simp] theorem State.jumpRel_video (s : State) (d : Byte) : (s.jumpRel d).video = s.video := rfl
@[simp] theorem State.jumpRel_tape (s : State) (d : Byte) : (s.jumpRel d).tape = s.tape := rfl
@[simp] theorem State.jumpRel_sched (s : State) (d : Byte) : (s.jumpRel d).sched = s.sched := rfl
@[simp] theorem State.jumpRel_cfg (s : State) (d : Byte) : (s.jumpRel d).cfg = s.cfg := rfl
@[simp] theorem State.jumpRel_free (s : State) (d : Byte) : (s.jumpRel d).free = s.free := rfl

@[simp] theorem State.rotateA_cpu (s : State) (out : Byte × Bool) : (s.rotateA out).cpu = { s.cpu with a := out.1, f := accFlags out.1 s.cpu.f false false out.2 } := rfl
@[simp] theorem State.rotateA_mem (s : State) (out : Byte × Bool) : (s.rotateA out).mem = s.mem := rfl
@[simp] theorem State.rotateA_bus (s : State) (out : Byte × Bool) : (s.rotateA out).bus = s.bus := rfl
@[simp] theorem State.rotateA_video (s : State) (out : Byte × Bool) : (s.rotateA out).video = s.video := rfl
@[simp] theorem State.rotateA_tape (s : State) (out : Byte × Bool) : (s.rotateA out).tape = s.tape := rfl
@[simp] theorem State.rotateA_sched (s : State) (out : Byte × Bool) : (s.rotateA out).sched = s.sched := rfl
@[simp] theorem State.rotateA_cfg (s : State) (out : Byte × Bool) : (s.rotateA out).cfg = s.cfg := rfl
@[simp] theorem State.rotateA_free (s : State) (out : Byte × Bool) : (s.rotateA out).free = s.free := rfl

@[simp] theorem State.rotateReg_cpu (s : State) (r : Reg) (out : Byte × Bool) : (s.rotateReg r out).cpu = { s.cpu.setReg r out.1 with f := rotateFlags out.1 out.2 } := rfl
@[simp] theorem State.rotateReg_mem (s : State) (r : Reg) (out : Byte × Bool) : (s.rotateReg r out).mem = s.mem := rfl
@[simp] theorem State.rotateReg_bus (s : State) (r : Reg) (out : Byte × Bool) : (s.rotateReg r out).bus = s.bus := rfl
@[simp] theorem State.rotateReg_video (s : State) (r : Reg) (out : Byte × Bool) : (s.rotateReg r out).video = s.video := rfl
@[simp] theorem State.rotateReg_tape (s : State) (r : Reg) (out : Byte × Bool) : (s.rotateReg r out).tape = s.tape := rfl
@[simp] theorem State.rotateReg_sched (s : State) (r : Reg) (out : Byte × Bool) : (s.rotateReg r out).sched = s.sched := rfl
@[simp] theorem State.rotateReg_cfg (s : State) (r : Reg) (out : Byte × Bool) : (s.rotateReg r out).cfg = s.cfg := rfl
@[simp] theorem State.rotateReg_free (s : State) (r : Reg) (out : Byte × Bool) : (s.rotateReg r out).free = s.free := rfl

@[simp] theorem State.rotateHl_cpu (s : State) (out : Byte × Bool) : (s.rotateHl out).cpu = { s.cpu with f := rotateFlags out.1 out.2 } := rfl
@[simp] theorem State.rotateHl_mem (s : State) (out : Byte × Bool) : (s.rotateHl out).mem = s.mem.write s.cpu.hl out.1 := rfl
@[simp] theorem State.rotateHl_bus (s : State) (out : Byte × Bool) : (s.rotateHl out).bus = s.bus := rfl
@[simp] theorem State.rotateHl_video (s : State) (out : Byte × Bool) : (s.rotateHl out).video = s.video := rfl
@[simp] theorem State.rotateHl_tape (s : State) (out : Byte × Bool) : (s.rotateHl out).tape = s.tape := rfl
@[simp] theorem State.rotateHl_sched (s : State) (out : Byte × Bool) : (s.rotateHl out).sched = s.sched := rfl
@[simp] theorem State.rotateHl_cfg (s : State) (out : Byte × Bool) : (s.rotateHl out).cfg = s.cfg := rfl
@[simp] theorem State.rotateHl_free (s : State) (out : Byte × Bool) : (s.rotateHl out).free = s.free := rfl

@[simp] theorem State.setIff_cpu (s : State) (v : Bool) : (s.setIff v).cpu = { s.cpu with iff1 := v, iff2 := v } := rfl
@[simp] theorem State.setIff_mem (s : State) (v : Bool) : (s.setIff v).mem = s.mem := rfl
@[simp] theorem State.setIff_bus (s : State) (v : Bool) : (s.setIff v).bus = s.bus := rfl
@[simp] theorem State.setIff_video (s : State) (v : Bool) : (s.setIff v).video = s.video := rfl
@[simp] theorem State.setIff_tape (s : State) (v : Bool) : (s.setIff v).tape = s.tape := rfl
@[simp] theorem State.setIff_sched (s : State) (v : Bool) : (s.setIff v).sched = s.sched := rfl
@[simp] theorem State.setIff_cfg (s : State) (v : Bool) : (s.setIff v).cfg = s.cfg := rfl
@[simp] theorem State.setIff_free (s : State) (v : Bool) : (s.setIff v).free = s.free := rfl

@[simp] theorem State.loadSpecial_cpu (s : State) (v : Byte) : (s.loadSpecial v).cpu = { s.cpu with a := v, f := loadSpecialFlags v s.cpu.f s.cpu.iff2 } := rfl
@[simp] theorem State.loadSpecial_mem (s : State) (v : Byte) : (s.loadSpecial v).mem = s.mem := rfl
@[simp] theorem State.loadSpecial_bus (s : State) (v : Byte) : (s.loadSpecial v).bus = s.bus := rfl
@[simp] theorem State.loadSpecial_video (s : State) (v : Byte) : (s.loadSpecial v).video = s.video := rfl
@[simp] theorem State.loadSpecial_tape (s : State) (v : Byte) : (s.loadSpecial v).tape = s.tape := rfl
@[simp] theorem State.loadSpecial_sched (s : State) (v : Byte) : (s.loadSpecial v).sched = s.sched := rfl
@[simp] theorem State.loadSpecial_cfg (s : State) (v : Byte) : (s.loadSpecial v).cfg = s.cfg := rfl
@[simp] theorem State.loadSpecial_free (s : State) (v : Byte) : (s.loadSpecial v).free = s.free := rfl

@[simp] theorem State.blockMove_cpu (s : State) (k : Word) : (s.blockMove k).cpu = ((s.cpu.setHl (s.cpu.hl + k)).setDe (s.cpu.de + k)).setBc (s.cpu.bc - 1) := rfl
@[simp] theorem State.blockMove_mem (s : State) (k : Word) : (s.blockMove k).mem = s.mem.write s.cpu.de s.readHl := rfl
@[simp] theorem State.blockMove_bus (s : State) (k : Word) : (s.blockMove k).bus = s.bus := rfl
@[simp] theorem State.blockMove_video (s : State) (k : Word) : (s.blockMove k).video = s.video := rfl
@[simp] theorem State.blockMove_tape (s : State) (k : Word) : (s.blockMove k).tape = s.tape := rfl
@[simp] theorem State.blockMove_sched (s : State) (k : Word) : (s.blockMove k).sched = s.sched := rfl
@[simp] theorem State.blockMove_cfg (s : State) (k : Word) : (s.blockMove k).cfg = s.cfg := rfl
@[simp] theorem State.blockMove_free (s : State) (k : Word) : (s.blockMove k).free = s.free := rfl

@[simp] theorem State.raiseUnrecognised_cpu (s : State) (key : List Byte) : (s.raiseUnrecognised key).cpu = { s.cpu with fault := some { addr := s.cpu.pc, bytes := key } } := rfl
@[simp] theorem State.raiseUnrecognised_mem (s : State) (key : List Byte) : (s.raiseUnrecognised key).mem = s.mem := rfl
@[simp] theorem State.raiseUnrecognised_bus (s : State) (key : List Byte) : (s.raiseUnrecognised key).bus = s.bus := rfl
@[simp] theorem State.raiseUnrecognised_video (s : State) (key : List Byte) : (s.raiseUnrecognised key).video = s.video := rfl
@[simp] theorem State.raiseUnrecognised_tape (s : State) (key : List Byte) : (s.raiseUnrecognised key).tape = s.tape := rfl
@[simp] theorem State.raiseUnrecognised_sched (s : State) (key : List Byte) : (s.raiseUnrecognised key).sched = { s.sched with mode := if s.sched.mode = .running then .paused else s.sched.mode } := rfl
@[simp] theorem State.raiseUnrecognised_cfg (s : State) (key : List Byte) : (s.raiseUnrecognised key).cfg = s.cfg := rfl
@[simp] theorem State.raiseUnrecognised_free (s : State) (key : List Byte) : (s.raiseUnrecognised key).free = s.free := rfl

@[simp] theorem State.renderScanline_cpu (s : State) (n : Nat) : (s.renderScanline n).cpu = s.cpu := rfl
@[simp] theorem State.renderScanline_mem (s : State) (n : Nat) : (s.renderScanline n).mem = s.mem := rfl
@[simp] theorem State.renderScanline_bus (s : State) (n : Nat) : (s.renderScanline n).bus = s.bus := rfl
@[simp] theorem State.renderScanline_video (s : State) (n : Nat) : (s.renderScanline n).video = { s.video with frame := s.video.frame.set n (s.scanline n) } := rfl
@[simp] theorem State.renderScanline_tape (s : State) (n : Nat) : (s.renderScanline n).tape = s.tape := rfl
@[simp] theorem State.renderScanline_sched (s : State) (n : Nat) : (s.renderScanline n).sched = s.sched := rfl
@[simp] theorem State.renderScanline_cfg (s : State) (n : Nat) : (s.renderScanline n).cfg = s.cfg := rfl
@[simp] theorem State.renderScanline_free (s : State) (n : Nat) : (s.renderScanline n).free = s.free := rfl

/-! ## Register updates -/

@[simp] theorem Cpu.setBc_a (c : Cpu) (v : Word) : (c.setBc v).a = c.a := rfl
@[simp] theorem Cpu.setBc_f (c : Cpu) (v : Word) : (c.setBc v).f = c.f := rfl
@[simp] theorem Cpu.setBc_b (c : Cpu) (v : Word) : (c.setBc v).b = hiByte v := rfl
@[simp] theorem Cpu.setBc_c (c : Cpu) (v : Word) : (c.setBc v).c = loByte v := rfl
@[simp] theorem Cpu.setBc_d (c : Cpu) (v : Word) : (c.setBc v).d = c.d := rfl
@[simp] theorem Cpu.setBc_e (c : Cpu) (v : Word) : (c.setBc v).e = c.e := rfl
@[simp] theorem Cpu.setBc_h (c : Cpu) (v : Word) : (c.setBc v).h = c.h := rfl
@[simp] theorem Cpu.setBc_l (c : Cpu) (v : Word) : (c.setBc v).l = c.l := rfl
@[simp] theorem Cpu.setBc_a_ (c : Cpu) (v : Word) : (c.setBc v).a_ = c.a_ := rfl
@[simp] theorem Cpu.setBc_f_ (c : Cpu) (v : Word) : (c.setBc v).f_ = c.f_ := rfl
@[simp] theorem Cpu.setBc_b_ (c : Cpu) (v : Word) : (c.setBc v).b_ = c.b_ := rfl
@[simp] theorem Cpu.setBc_c_ (c : Cpu) (v : Word) : (c.setBc v).c_ = c.c_ := rfl
@[simp] theorem Cpu.setBc_d_ (c : Cpu) (v : Word) : (c.setBc v).d_ = c.d_ := rfl
@[simp] theorem Cpu.setBc_e_ (c : Cpu) (v : Word) : (c.setBc v).e_ = c.e_ := rfl
@[simp] theorem Cpu.setBc_h_ (c : Cpu) (v : Word) : (c.setBc v).h_ = c.h_ := rfl
@[simp] theorem Cpu.setBc_l_ (c : Cpu) (v : Word) : (c.setBc v).l_ = c.l_ := rfl
@[simp] theorem Cpu.setBc_ix (c : Cpu) (v : Word) : (c.setBc v).ix = c.ix := rfl
@[simp] theorem Cpu.setBc_iy (c : Cpu) (v : Word) : (c.setBc v).iy = c.iy := rfl
@[simp] theorem Cpu.setBc_sp (c : Cpu) (v : Word) : (c.setBc v).sp = c.sp := rfl
@[simp] theorem Cpu.setBc_pc (c : Cpu) (v : Word) : (c.setBc v).pc = c.pc := rfl
@[simp] theorem Cpu.setBc_i (c : Cpu) (v : Word) : (c.setBc v).i = c.i := rfl
@[simp] theorem Cpu.setBc_r (c : Cpu) (v : Word) : (c.setBc v).r = c.r := rfl
@[simp] theorem Cpu.setBc_iff1 (c : Cpu) (v : Word) : (c.setBc v).iff1 = c.iff1 := rfl
@[simp] theorem Cpu.setBc_iff2 (c : Cpu) (v : Word) : (c.setBc v).iff2 = c.iff2 := rfl
@[simp] theorem Cpu.setBc_im (c : Cpu) (v : Word) : (c.setBc v).im = c.im := rfl
@[simp] theorem Cpu.setBc_halted (c : Cpu) (v : Word) : (c.setBc v).halted = c.halted := rfl
@[simp] theorem Cpu.setBc_fault (c : Cpu) (v : Word) : (c.setBc v).fault = c.fault := rfl
@[simp] theorem Cpu.setBc_tstates (c : Cpu) (v : Word) : (c.setBc v).tstates = c.tstates := rfl

@[simp] theorem Cpu.setDe_a (c : Cpu) (v : Word) : (c.setDe v).a = c.a := rfl
@[simp] theorem Cpu.setDe_f (c : Cpu) (v : Word) : (c.setDe v).f = c.f := rfl
@[simp] theorem Cpu.setDe_b (c : Cpu) (v : Word) : (c.setDe v).b = c.b := rfl
@[simp] theorem Cpu.setDe_c (c : Cpu) (v : Word) : (c.setDe v).c = c.c := rfl
@[simp] theorem Cpu.setDe_d (c : Cpu) (v : Word) : (c.setDe v).d = hiByte v := rfl
@[simp] theorem Cpu.setDe_e (c : Cpu) (v : Word) : (c.setDe v).e = loByte v := rfl
@[simp] theorem Cpu.setDe_h (c : Cpu) (v : Word) : (c.setDe v).h = c.h := rfl
@[simp] theorem Cpu.setDe_l (c : Cpu) (v : Word) : (c.setDe v).l = c.l := rfl
@[simp] theorem Cpu.setDe_a_ (c : Cpu) (v : Word) : (c.setDe v).a_ = c.a_ := rfl
@[simp] theorem Cpu.setDe_f_ (c : Cpu) (v : Word) : (c.setDe v).f_ = c.f_ := rfl
@[simp] theorem Cpu.setDe_b_ (c : Cpu) (v : Word) : (c.setDe v).b_ = c.b_ := rfl
@[simp] theorem Cpu.setDe_c_ (c : Cpu) (v : Word) : (c.setDe v).c_ = c.c_ := rfl
@[simp] theorem Cpu.setDe_d_ (c : Cpu) (v : Word) : (c.setDe v).d_ = c.d_ := rfl
@[simp] theorem Cpu.setDe_e_ (c : Cpu) (v : Word) : (c.setDe v).e_ = c.e_ := rfl
@[simp] theorem Cpu.setDe_h_ (c : Cpu) (v : Word) : (c.setDe v).h_ = c.h_ := rfl
@[simp] theorem Cpu.setDe_l_ (c : Cpu) (v : Word) : (c.setDe v).l_ = c.l_ := rfl
@[simp] theorem Cpu.setDe_ix (c : Cpu) (v : Word) : (c.setDe v).ix = c.ix := rfl
@[simp] theorem Cpu.setDe_iy (c : Cpu) (v : Word) : (c.setDe v).iy = c.iy := rfl
@[simp] theorem Cpu.setDe_sp (c : Cpu) (v : Word) : (c.setDe v).sp = c.sp := rfl
@[simp] theorem Cpu.setDe_pc (c : Cpu) (v : Word) : (c.setDe v).pc = c.pc := rfl
@[simp] theorem Cpu.setDe_i (c : Cpu) (v : Word) : (c.setDe v).i = c.i := rfl
@[simp] theorem Cpu.setDe_r (c : Cpu) (v : Word) : (c.setDe v).r = c.r := rfl
@[simp] theorem Cpu.setDe_iff1 (c : Cpu) (v : Word) : (c.setDe v).iff1 = c.iff1 := rfl
@[simp] theorem Cpu.setDe_iff2 (c : Cpu) (v : Word) : (c.setDe v).iff2 = c.iff2 := rfl
@[simp] theorem Cpu.setDe_im (c : Cpu) (v : Word) : (c.setDe v).im = c.im := rfl
@[simp] theorem Cpu.setDe_halted (c : Cpu) (v : Word) : (c.setDe v).halted = c.halted := rfl
@[simp] theorem Cpu.setDe_fault (c : Cpu) (v : Word) : (c.setDe v).fault = c.fault := rfl
@[simp] theorem Cpu.setDe_tstates (c : Cpu) (v : Word) : (c.setDe v).tstates = c.tstates := rfl

@[simp] theorem Cpu.setHl_a (c : Cpu) (v : Word) : (c.setHl v).a = c.a := rfl
@[simp] theorem Cpu.setHl_f (c : Cpu) (v : Word) : (c.setHl v).f = c.f := rfl
@[simp] theorem Cpu.setHl_b (c : Cpu) (v : Word) : (c.setHl v).b = c.b := rfl
@[simp] theorem Cpu.setHl_c (c : Cpu) (v : Word) : (c.setHl v).c = c.c := rfl
@[simp] theorem Cpu.setHl_d (c : Cpu) (v : Word) : (c.setHl v).d = c.d := rfl
@[simp] theorem Cpu.setHl_e (c : Cpu) (v : Word) : (c.setHl v).e = c.e := rfl
@[simp] theorem Cpu.setHl_h (c : Cpu) (v : Word) : (c.setHl v).h = hiByte v := rfl
@[simp] theorem Cpu.setHl_l (c : Cpu) (v : Word) : (c.setHl v).l = loByte v := rfl
@[simp] theorem Cpu.setHl_a_ (c : Cpu) (v : Word) : (c.setHl v).a_ = c.a_ := rfl
@[simp] theorem Cpu.setHl_f_ (c : Cpu) (v : Word) : (c.setHl v).f_ = c.f_ := rfl
@[simp] theorem Cpu.setHl_b_ (c : Cpu) (v : Word) : (c.setHl v).b_ = c.b_ := rfl
@[simp] theorem Cpu.setHl_c_ (c : Cpu) (v : Word) : (c.setHl v).c_ = c.c_ := rfl
@[simp] theorem Cpu.setHl_d_ (c : Cpu) (v : Word) : (c.setHl v).d_ = c.d_ := rfl
@[simp] theorem Cpu.setHl_e_ (c : Cpu) (v : Word) : (c.setHl v).e_ = c.e_ := rfl
@[simp] theorem Cpu.setHl_h_ (c : Cpu) (v : Word) : (c.setHl v).h_ = c.h_ := rfl
@[simp] theorem Cpu.setHl_l_ (c : Cpu) (v : Word) : (c.setHl v).l_ = c.l_ := rfl
@[simp] theorem Cpu.setHl_ix (c : Cpu) (v : Word) : (c.setHl v).ix = c.ix := rfl
@[simp] theorem Cpu.setHl_iy (c : Cpu) (v : Word) : (c.setHl v).iy = c.iy := rfl
@[simp] theorem Cpu.setHl_sp (c : Cpu) (v : Word) : (c.setHl v).sp = c.sp := rfl
@[simp] theorem Cpu.setHl_pc (c : Cpu) (v : Word) : (c.setHl v).pc = c.pc := rfl
@[simp] theorem Cpu.setHl_i (c : Cpu) (v : Word) : (c.setHl v).i = c.i := rfl
@[simp] theorem Cpu.setHl_r (c : Cpu) (v : Word) : (c.setHl v).r = c.r := rfl
@[simp] theorem Cpu.setHl_iff1 (c : Cpu) (v : Word) : (c.setHl v).iff1 = c.iff1 := rfl
@[simp] theorem Cpu.setHl_iff2 (c : Cpu) (v : Word) : (c.setHl v).iff2 = c.iff2 := rfl
@[simp] theorem Cpu.setHl_im (c : Cpu) (v : Word) : (c.setHl v).im = c.im := rfl
@[simp] theorem Cpu.setHl_halted (c : Cpu) (v : Word) : (c.setHl v).halted = c.halted := rfl
@[simp] theorem Cpu.setHl_fault (c : Cpu) (v : Word) : (c.setHl v).fault = c.fault := rfl
@[simp] theorem Cpu.setHl_tstates (c : Cpu) (v : Word) : (c.setHl v).tstates = c.tstates := rfl

@[simp] theorem Cpu.setAf_a (c : Cpu) (v : Word) : (c.setAf v).a = hiByte v := rfl
@[simp] theorem Cpu.setAf_f (c : Cpu) (v : Word) : (c.setAf v).f = loByte v := rfl
@[simp] theorem Cpu.setAf_b (c : Cpu) (v : Word) : (c.setAf v).b = c.b := rfl
@[simp] theorem Cpu.setAf_c (c : Cpu) (v : Word) : (c.setAf v).c = c.c := rfl
@[simp] theorem Cpu.setAf_d (c : Cpu) (v : Word) : (c.setAf v).d = c.d := rfl
@[simp] theorem Cpu.setAf_e (c : Cpu) (v : Word) : (c.setAf v).e = c.e := rfl
@[simp] theorem Cpu.setAf_h (c : Cpu) (v : Word) : (c.setAf v).h = c.h := rfl
@[simp] theorem Cpu.setAf_l (c : Cpu) (v : Word) : (c.setAf v).l = c.l := rfl
@[simp] theorem Cpu.setAf_a_ (c : Cpu) (v : Word) : (c.setAf v).a_ = c.a_ := rfl
@[simp] theorem Cpu.setAf_f_ (c : Cpu) (v : Word) : (c.setAf v).f_ = c.f_ := rfl
@[simp] theorem Cpu.setAf_b_ (c : Cpu) (v : Word) : (c.setAf v).b_ = c.b_ := rfl
@[simp] theorem Cpu.setAf_c_ (c : Cpu) (v : Word) : (c.setAf v).c_ = c.c_ := rfl
@[simp] theorem Cpu.setAf_d_ (c : Cpu) (v : Word) : (c.setAf v).d_ = c.d_ := rfl
@[simp] theorem Cpu.setAf_e_ (c : Cpu) (v : Word) : (c.setAf v).e_ = c.e_ := rfl
@[simp] theorem Cpu.setAf_h_ (c : Cpu) (v : Word) : (c.setAf v).h_ = c.h_ := rfl
@[simp] theorem Cpu.setAf_l_ (c : Cpu) (v : Word) : (c.setAf v).l_ = c.l_ := rfl
@[simp] theorem Cpu.setAf_ix (c : Cpu) (v : Word) : (c.setAf v).ix = c.ix := rfl
@[simp] theorem Cpu.setAf_iy (c : Cpu) (v : Word) : (c.setAf v).iy = c.iy := rfl
@[simp] theorem Cpu.setAf_sp (c : Cpu) (v : Word) : (c.setAf v).sp = c.sp := rfl
@[simp] theorem Cpu.setAf_pc (c : Cpu) (v : Word) : (c.setAf v).pc = c.pc := rfl
@[simp] theorem Cpu.setAf_i (c : Cpu) (v : Word) : (c.setAf v).i = c.i := rfl
@[simp] theorem Cpu.setAf_r (c : Cpu) (v : Word) : (c.setAf v).r = c.r := rfl
@[simp] theorem Cpu.setAf_iff1 (c : Cpu) (v : Word) : (c.setAf v).iff1 = c.iff1 := rfl
@[simp] theorem Cpu.setAf_iff2 (c : Cpu) (v : Word) : (c.setAf v).iff2 = c.iff2 := rfl
@[simp] theorem Cpu.setAf_im (c : Cpu) (v : Word) : (c.setAf v).im = c.im := rfl
@[simp] theorem Cpu.setAf_halted (c : Cpu) (v : Word) : (c.setAf v).halted = c.halted := rfl
@[simp] theorem Cpu.setAf_fault (c : Cpu) (v : Word) : (c.setAf v).fault = c.fault := rfl
@[simp] theorem Cpu.setAf_tstates (c : Cpu) (v : Word) : (c.setAf v).tstates = c.tstates := rfl

@[simp] theorem Cpu.setReg_f (c : Cpu) (r : Reg) (v : Byte) : (c.setReg r v).f = c.f := by cases r <;> rfl
@[simp] theorem Cpu.setReg_a_ (c : Cpu) (r : Reg) (v : Byte) : (c.setReg r v).a_ = c.a_ := by cases r <;> rfl
@[simp] theorem Cpu.setReg_f_ (c : Cpu) (r : Reg) (v : Byte) : (c.setReg r v).f_ = c.f_ := by cases r <;> rfl
@[simp] theorem Cpu.setReg_b_ (c : Cpu) (r : Reg) (v : Byte) : (c.setReg r v).b_ = c.b_ := by cases r <;> rfl
@[simp] theorem Cpu.setReg_c_ (c : Cpu) (r : Reg) (v : Byte) : (c.setReg r v).c_ = c.c_ := by cases r <;> rfl
@[simp] theorem Cpu.setReg_d_ (c : Cpu) (r : Reg) (v : Byte) : (c.setReg r v).d_ = c.d_ := by cases r <;> rfl
@[simp] theorem Cpu.setReg_e_ (c : Cpu) (r : Reg) (v : Byte) : (c.setReg r v).e_ = c.e_ := by cases r <;> rfl
@[simp] theorem Cpu.setReg_h_ (c : Cpu) (r : Reg) (v : Byte) : (c.setReg r v).h_ = c.h_ := by cases r <;> rfl
@[simp] theorem Cpu.setReg_l_ (c : Cpu) (r : Reg) (v : Byte) : (c.setReg r v).l_ = c.l_ := by cases r <;> rfl
@[simp] theorem Cpu.setReg_ix (c : Cpu) (r : Reg) (v : Byte) : (c.setReg r v).ix = c.ix := by cases r <;> rfl
@[simp] theorem Cpu.setReg_iy (c : Cpu) (r : Reg) (v : Byte) : (c.setReg r v).iy = c.iy := by cases r <;> rfl
@[simp] theorem Cpu.setReg_sp (c : Cpu) (r : Reg) (v : Byte) : (c.setReg r v).sp = c.sp := by cases r <;> rfl
@[simp] theorem Cpu.setReg_pc (c : Cpu) (r : Reg) (v : Byte) : (c.setReg r v).pc = c.pc := by cases r <;> rfl
@[simp] theorem Cpu.setReg_i (c : Cpu) (r : Reg) (v : Byte) : (c.setReg r v).i = c.i := by cases r <;> rfl
@[simp] theorem Cpu.setReg_r (c : Cpu) (r : Reg) (v : Byte) : (c.setReg r v).r = c.r := by cases r <;> rfl
@[simp] theorem Cpu.setReg_iff1 (c : Cpu) (r : Reg) (v : Byte) : (c.setReg r v).iff1 = c.iff1 := by cases r <;> rfl
@[simp] theorem Cpu.setReg_iff2 (c : Cpu) (r : Reg) (v : Byte) : (c.setReg r v).iff2 = c.iff2 := by cases r <;> rfl
@[simp] theorem Cpu.setReg_im (c : Cpu) (r : Reg) (v : Byte) : (c.setReg r v).im = c.im := by cases r <;> rfl
@[simp] theorem Cpu.setReg_halted (c : Cpu) (r : Reg) (v : Byte) : (c.setReg r v).halted = c.halted := by cases r <;> rfl
@[simp] theorem Cpu.setReg_fault (c : Cpu) (r : Reg) (v : Byte) : (c.setReg r v).fault = c.fault := by cases r <;> rfl
@[simp] theorem Cpu.setReg_tstates (c : Cpu) (r : Reg) (v : Byte) : (c.setReg r v).tstates = c.tstates := by cases r <;> rfl

@[simp] theorem Cpu.setPair_a (c : Cpu) (p : RegPair) (v : Word) : (c.setPair p v).a = c.a := by cases p <;> rfl
@[simp] theorem Cpu.setPair_f (c : Cpu) (p : RegPair) (v : Word) : (c.setPair p v).f = c.f := by cases p <;> rfl
@[simp] theorem Cpu.setPair_a_ (c : Cpu) (p : RegPair) (v : Word) : (c.setPair p v).a_ = c.a_ := by cases p <;> rfl
@[simp] theorem Cpu.setPair_f_ (c : Cpu) (p : RegPair) (v : Word) : (c.setPair p v).f_ = c.f_ := by cases p <;> rfl
@[simp] theorem Cpu.setPair_b_ (c : Cpu) (p : RegPair) (v : Word) : (c.setPair p v).b_ = c.b_ := by cases p <;> rfl
@[simp] theorem Cpu.setPair_c_ (c : Cpu) (p : RegPair) (v : Word) : (c.setPair p v).c_ = c.c_ := by cases p <;> rfl
@[simp] theorem Cpu.setPair_d_ (c : Cpu) (p : RegPair) (v : Word) : (c.setPair p v).d_ = c.d_ := by cases p <;> rfl
@[simp] theorem Cpu.setPair_e_ (c : Cpu) (p : RegPair) (v : Word) : (c.setPair p v).e_ = c.e_ := by cases p <;> rfl
@[simp] theorem Cpu.setPair_h_ (c : Cpu) (p : RegPair) (v : Word) : (c.setPair p v).h_ = c.h_ := by cases p <;> rfl
@[simp] theorem Cpu.setPair_l_ (c : Cpu) (p : RegPair) (v : Word) : (c.setPair p v).l_ = c.l_ := by cases p <;> rfl
@[simp] theorem Cpu.setPair_ix (c : Cpu) (p : RegPair) (v : Word) : (c.setPair p v).ix = c.ix := by cases p <;> rfl
@[simp] theorem Cpu.setPair_iy (c : Cpu) (p : RegPair) (v : Word) : (c.setPair p v).iy = c.iy := by cases p <;> rfl
@[simp] theorem Cpu.setPair_pc (c : Cpu) (p : RegPair) (v : Word) : (c.setPair p v).pc = c.pc := by cases p <;> rfl
@[simp] theorem Cpu.setPair_i (c : Cpu) (p : RegPair) (v : Word) : (c.setPair p v).i = c.i := by cases p <;> rfl
@[simp] theorem Cpu.setPair_r (c : Cpu) (p : RegPair) (v : Word) : (c.setPair p v).r = c.r := by cases p <;> rfl
@[simp] theorem Cpu.setPair_iff1 (c : Cpu) (p : RegPair) (v : Word) : (c.setPair p v).iff1 = c.iff1 := by cases p <;> rfl
@[simp] theorem Cpu.setPair_iff2 (c : Cpu) (p : RegPair) (v : Word) : (c.setPair p v).iff2 = c.iff2 := by cases p <;> rfl
@[simp] theorem Cpu.setPair_im (c : Cpu) (p : RegPair) (v : Word) : (c.setPair p v).im = c.im := by cases p <;> rfl
@[simp] theorem Cpu.setPair_halted (c : Cpu) (p : RegPair) (v : Word) : (c.setPair p v).halted = c.halted := by cases p <;> rfl
@[simp] theorem Cpu.setPair_fault (c : Cpu) (p : RegPair) (v : Word) : (c.setPair p v).fault = c.fault := by cases p <;> rfl
@[simp] theorem Cpu.setPair_tstates (c : Cpu) (p : RegPair) (v : Word) : (c.setPair p v).tstates = c.tstates := by cases p <;> rfl

@[simp] theorem Cpu.setStackPair_a_ (c : Cpu) (p : StackPair) (v : Word) : (c.setStackPair p v).a_ = c.a_ := by cases p <;> rfl
@[simp] theorem Cpu.setStackPair_f_ (c : Cpu) (p : StackPair) (v : Word) : (c.setStackPair p v).f_ = c.f_ := by cases p <;> rfl
@[simp] theorem Cpu.setStackPair_b_ (c : Cpu) (p : StackPair) (v : Word) : (c.setStackPair p v).b_ = c.b_ := by cases p <;> rfl
@[simp] theorem Cpu.setStackPair_c_ (c : Cpu) (p : StackPair) (v : Word) : (c.setStackPair p v).c_ = c.c_ := by cases p <;> rfl
@[simp] theorem Cpu.setStackPair_d_ (c : Cpu) (p : StackPair) (v : Word) : (c.setStackPair p v).d_ = c.d_ := by cases p <;> rfl
@[simp] theorem Cpu.setStackPair_e_ (c : Cpu) (p : StackPair) (v : Word) : (c.setStackPair p v).e_ = c.e_ := by cases p <;> rfl
@[simp] theorem Cpu.setStackPair_h_ (c : Cpu) (p : StackPair) (v : Word) : (c.setStackPair p v).h_ = c.h_ := by cases p <;> rfl
@[simp] theorem Cpu.setStackPair_l_ (c : Cpu) (p : StackPair) (v : Word) : (c.setStackPair p v).l_ = c.l_ := by cases p <;> rfl
@[simp] theorem Cpu.setStackPair_ix (c : Cpu) (p : StackPair) (v : Word) : (c.setStackPair p v).ix = c.ix := by cases p <;> rfl
@[simp] theorem Cpu.setStackPair_iy (c : Cpu) (p : StackPair) (v : Word) : (c.setStackPair p v).iy = c.iy := by cases p <;> rfl
@[simp] theorem Cpu.setStackPair_sp (c : Cpu) (p : StackPair) (v : Word) : (c.setStackPair p v).sp = c.sp := by cases p <;> rfl
@[simp] theorem Cpu.setStackPair_pc (c : Cpu) (p : StackPair) (v : Word) : (c.setStackPair p v).pc = c.pc := by cases p <;> rfl
@[simp] theorem Cpu.setStackPair_i (c : Cpu) (p : StackPair) (v : Word) : (c.setStackPair p v).i = c.i := by cases p <;> rfl
@[simp] theorem Cpu.setStackPair_r (c : Cpu) (p : StackPair) (v : Word) : (c.setStackPair p v).r = c.r := by cases p <;> rfl
@[simp] theorem Cpu.setStackPair_iff1 (c : Cpu) (p : StackPair) (v : Word) : (c.setStackPair p v).iff1 = c.iff1 := by cases p <;> rfl
@[simp] theorem Cpu.setStackPair_iff2 (c : Cpu) (p : StackPair) (v : Word) : (c.setStackPair p v).iff2 = c.iff2 := by cases p <;> rfl
@[simp] theorem Cpu.setStackPair_im (c : Cpu) (p : StackPair) (v : Word) : (c.setStackPair p v).im = c.im := by cases p <;> rfl
@[simp] theorem Cpu.setStackPair_halted (c : Cpu) (p : StackPair) (v : Word) : (c.setStackPair p v).halted = c.halted := by cases p <;> rfl
@[simp] theorem Cpu.setStackPair_fault (c : Cpu) (p : StackPair) (v : Word) : (c.setStackPair p v).fault = c.fault := by cases p <;> rfl
@[simp] theorem Cpu.setStackPair_tstates (c : Cpu) (p : StackPair) (v : Word) : (c.setStackPair p v).tstates = c.tstates := by cases p <;> rfl

/-- Register read after register write. -/
theorem Cpu.reg_setReg (c : Cpu) (dst r : Reg) (v : Byte) :
    (c.setReg dst v).reg r = if r = dst then v else c.reg r := by
  cases dst <;> cases r <;> rfl

/-- A set flag byte is read by no register. -/
@[simp] theorem Cpu.reg_with_f (c : Cpu) (r : Reg) (v : Byte) : ({ c with f := v } : Cpu).reg r = c.reg r := by
  cases r <;> rfl

@[simp] theorem mkWord_hi_lo (v : Word) : mkWord (hiByte v) (loByte v) = v := by
  apply BitVec.eq_of_toNat_eq
  simp only [mkWord, hiByte, loByte, BitVec.toNat_append, BitVec.extractLsb'_toNat]
  rw [Nat.shiftLeft_eq, ← Nat.shiftLeft_eq, ← Nat.shiftLeft_add_eq_or_of_lt (by omega)]
  omega

/-- A pair is `high*256 + low` (10_state.md R21). -/
theorem mkWord_toNat (hi lo : Byte) : (mkWord hi lo).toNat = hi.toNat * 256 + lo.toNat := by
  simp only [mkWord, BitVec.toNat_append]
  rw [← Nat.shiftLeft_add_eq_or_of_lt (by omega), Nat.shiftLeft_eq]

theorem hiByte_toNat (v : Word) : (hiByte v).toNat = v.toNat / 256 := by
  simp only [hiByte, BitVec.extractLsb'_toNat, Nat.shiftRight_eq_div_pow]
  omega

theorem loByte_toNat (v : Word) : (loByte v).toNat = v.toNat % 256 := by
  simp [loByte, BitVec.extractLsb'_toNat]

@[simp] theorem hiByte_mkWord (hi lo : Byte) : hiByte (mkWord hi lo) = hi := by
  apply BitVec.eq_of_toNat_eq
  rw [hiByte_toNat, mkWord_toNat]
  omega

@[simp] theorem loByte_mkWord (hi lo : Byte) : loByte (mkWord hi lo) = lo := by
  apply BitVec.eq_of_toNat_eq
  rw [loByte_toNat, mkWord_toNat]
  omega

/-- Pair read after pair write. -/
theorem Cpu.pair_setPair (c : Cpu) (d p : RegPair) (v : Word) :
    (c.setPair d v).pair p = if p = d then v else c.pair p := by
  cases d <;> cases p <;>
    simp [Cpu.setPair, Cpu.pair, Cpu.bc, Cpu.de, Cpu.hl, Cpu.setBc, Cpu.setDe, Cpu.setHl]

/-- Stack pair read after stack pair write. -/
theorem Cpu.stackPair_setStackPair (c : Cpu) (d p : StackPair) (v : Word) :
    (c.setStackPair d v).stackPair p = if p = d then v else c.stackPair p := by
  cases d <;> cases p <;>
    simp [Cpu.setStackPair, Cpu.stackPair, Cpu.bc, Cpu.de, Cpu.hl, Cpu.af, Cpu.setBc, Cpu.setDe, Cpu.setHl, Cpu.setAf]

/-- What the fetch increment of R leaves. -/
theorem State.fetchR_eq (s : State) :
    s.fetchR = { s with cpu := { s.cpu with r := if s.cfg.rPolicy = .m1 then bumpR s.cpu.r else s.cpu.r } } := by
  unfold State.fetchR
  split <;> rfl

end Sys2Proof.Machine
end

