-- ==== Sys2Proof/Laws/Ops.lean ====
section
/-! SUPPORT. One lemma per shared operation: everything it can do. -/

namespace Sys2Proof.Machine

/-- Reading a byte depends on memory alone. -/
theorem State.memRead_eq (s : State) (x : Word) : s.memRead x = s.mem.read x.toNat := rfl

/-- A read after a store (20_memory.md R62, R63). -/
theorem State.memRead_memWrite (s : State) (hm : s.mem.wf) (x y : Word) (v : Byte) :
    (s.memWrite x v).memRead y = if y = x ∧ romSize ≤ x.toNat then v else s.memRead y :=
  Memory.read_write s.mem hm x y v

/-- A read after two stores. -/
theorem Memory.read_write_write (m : Memory) (hm : m.wf) (x1 x2 y : Word) (v1 v2 : Byte) :
    ((m.write x1 v1).write x2 v2).read y.toNat =
      if y = x2 ∧ romSize ≤ x2.toNat then v2
      else if y = x1 ∧ romSize ≤ x1.toNat then v1 else m.read y.toNat := by
  rw [Memory.read_write _ (Memory.wf_write m hm x1 v1), Memory.read_write m hm]

/-- A read after a push (45_stack_calls.md R230): high byte at `SP - 1`, low byte at `SP - 2`, each unless in ROM. -/
theorem State.memRead_push16 (s : State) (hm : s.mem.wf) (v y : Word) :
    (s.push16 v).memRead y =
      if y = s.cpu.sp - 1 - 1 ∧ romSize ≤ (s.cpu.sp - 1 - 1).toNat then loByte v
      else if y = s.cpu.sp - 1 ∧ romSize ≤ (s.cpu.sp - 1).toNat then hiByte v else s.memRead y := by
  simp only [State.memRead_eq, State.push16_mem]
  exact Memory.read_write_write s.mem hm _ _ y _ _

/-- A push keeps the canonical form. -/
theorem State.wf_push16 (s : State) (hm : s.mem.wf) (v : Word) : (s.push16 v).mem.wf := by
  rw [State.push16_mem]
  exact Memory.wf_write _ (Memory.wf_write _ hm _ _) _ _

/-- A two-byte store keeps the canonical form. -/
theorem State.wf_memWrite16 (s : State) (hm : s.mem.wf) (x v : Word) : (s.memWrite16 x v).mem.wf := by
  rw [State.memWrite16_mem]
  exact Memory.wf_write _ (Memory.wf_write _ hm _ _) _ _

/-- The request that is not effective (60_exceptions.md R332). -/
theorem State.interrupt_lost (s : State) (h : s.cpu.fault ≠ none ∨ s.cpu.iff1 = false) : s.interrupt = s := by
  rw [State.interrupt, if_pos h]

/-- Interrupt entry (60_exceptions.md R330), field by field. -/
theorem State.interrupt_taken (s : State) (hf : s.cpu.fault = none) (hi : s.cpu.iff1 = true) :
    s.interrupt =
      { s with
        mem := (s.mem.write (s.cpu.sp - 1) (hiByte s.cpu.pc)).write (s.cpu.sp - 1 - 1) (loByte s.cpu.pc)
        cpu := { s.cpu with
          iff1 := false, iff2 := false, halted := false, r := bumpR s.cpu.r
          sp := s.cpu.sp - 1 - 1, pc := s.cfg.im1Vector, tstates := s.cpu.tstates + s.cfg.intCost } } := by
  rw [State.interrupt, if_neg (by simp [hf, hi])]
  simp only [State.charge, State.call, State.push16, State.advanceR, State.memWrite, State.setPc]

/-- What interrupt entry leaves alone. -/
theorem State.interrupt_frame (s : State) :
    s.interrupt.bus = s.bus ∧ s.interrupt.video = s.video ∧ s.interrupt.tape = s.tape ∧
      s.interrupt.sched = s.sched ∧ s.interrupt.cfg = s.cfg ∧ s.interrupt.free = s.free := by
  unfold State.interrupt
  split <;> simp

/-- An `IN` from an odd port (20_memory.md R74). -/
theorem Bus.portIn_odd (bus : Bus) (port : Word) (h : port.getLsbD 0 = true) : bus.portIn port = 0xFF#8 := by
  rw [Bus.portIn, if_pos h]

/-- An `IN` from an even port (20_memory.md R71). -/
theorem Bus.portIn_even (bus : Bus) (port : Word) (h : port.getLsbD 0 = false) : bus.portIn port = bus.ulaIn port := by
  rw [Bus.portIn, if_neg (by rw [h]; decide)]

/-- Everything an `OUT` can do (20_memory.md R72, R74). -/
theorem Bus.portOut_eq (bus : Bus) (port : Word) (v : Byte) :
    bus.portOut port v =
      { bus with border := if port.getLsbD 0 then bus.border else v.extractLsb' 0 3 } := by
  unfold Bus.portOut
  split <;> rfl

/-- The tape trap on a mismatch (60_exceptions.md R354, R355). -/
theorem State.performFastLoad_mismatch (s : State) (h : s.tapeMatch = none) :
    s.performFastLoad =
      { s with cpu := { s.cpu with f := withCarry s.cpu.f false, sp := s.cpu.sp + 2, pc := s.stackTop } } := by
  rw [State.performFastLoad, h]
  rfl

/-- The tape trap on a match (60_exceptions.md R354): the return address is read after the copy. -/
theorem State.performFastLoad_match (s : State) (data : List Byte) (h : s.tapeMatch = some data) :
    s.performFastLoad =
      let m := if flagC s.cpu.f then s.mem.writeBytes s.cpu.ix (data.take s.cpu.de.toNat) else s.mem
      { s with
        mem := m
        tape := { s.tape with pos := s.tape.pos + 1 }
        cpu := { s.cpu with
          f := withCarry s.cpu.f true, sp := s.cpu.sp + 2
          pc := mkWord (m.read (s.cpu.sp + 1).toNat) (m.read s.cpu.sp.toNat) } } := by
  rw [State.performFastLoad, h]
  by_cases hc : flagC s.cpu.f = true
  · simp only [hc, if_true]; rfl
  · simp only [hc]; rfl

end Sys2Proof.Machine
end

