-- ==== Sys2Proof/Laws/PerInstr.lean ====
section
/-! SUPPORT. Facts of every instruction as syntax, one lemma per constructor. -/

namespace Sys2Proof.Laws.EncodedLength

/-- An encoding has one to four bytes (30_encoding.md R90), and two opcode bytes exactly when its first byte is a
prefix (R92, R102). -/
def Statement (i : Instr) : Prop :=
  1 ≤ (encode i).length ∧ (encode i).length ≤ 4 ∧
    ∃ b0 rest, encode i = b0 :: rest ∧ i.opcodeBytes = if (pageOf b0).isSome then 2 else 1

/-- From the first byte and the rest. -/
theorem of_bytes (i : Instr) (b0 : Byte) (rest : List Byte) (h : encode i = b0 :: rest) (hl : rest.length ≤ 3)
    (ho : i.opcodeBytes = if (pageOf b0).isSome then 2 else 1) : Statement i :=
  ⟨by simp [h], by simp [h]; omega, b0, rest, h, ho⟩

theorem ldDdNn (dd : RegPair) (nn : Word) : Statement (.ldDdNn dd nn) :=
  of_bytes _ _ _ rfl (by simp) (by cases dd <;> rfl)

theorem ldIxNn (nn : Word) : Statement (.ldIxNn nn) :=
  of_bytes _ _ _ rfl (by simp) rfl

theorem ldIyNn (nn : Word) : Statement (.ldIyNn nn) :=
  of_bytes _ _ _ rfl (by simp) rfl

theorem ldRR (dst src : Reg) : Statement (.ldRR dst src) :=
  of_bytes _ _ _ rfl (by simp) (by cases dst <;> cases src <;> rfl)

theorem ldRN (dst : Reg) (n : Byte) : Statement (.ldRN dst n) :=
  of_bytes _ _ _ rfl (by simp) (by cases dst <;> rfl)

theorem ldRHl (dst : Reg) : Statement (.ldRHl dst) :=
  of_bytes _ _ _ rfl (by simp) (by cases dst <;> rfl)

theorem ldHlR (src : Reg) : Statement (.ldHlR src) :=
  of_bytes _ _ _ rfl (by simp) (by cases src <;> rfl)

theorem ldHlN (n : Byte) : Statement (.ldHlN n) :=
  of_bytes _ _ _ rfl (by simp) rfl

theorem ldABc : Statement (.ldABc) :=
  of_bytes _ _ _ rfl (by simp) rfl

theorem ldADe : Statement (.ldADe) :=
  of_bytes _ _ _ rfl (by simp) rfl

theorem ldANn (nn : Word) : Statement (.ldANn nn) :=
  of_bytes _ _ _ rfl (by simp) rfl

theorem ldBcA : Statement (.ldBcA) :=
  of_bytes _ _ _ rfl (by simp) rfl

theorem ldDeA : Statement (.ldDeA) :=
  of_bytes _ _ _ rfl (by simp) rfl

theorem ldNnA (nn : Word) : Statement (.ldNnA nn) :=
  of_bytes _ _ _ rfl (by simp) rfl

theorem ldHlNn (nn : Word) : Statement (.ldHlNn nn) :=
  of_bytes _ _ _ rfl (by simp) rfl

theorem ldNnHl (nn : Word) : Statement (.ldNnHl nn) :=
  of_bytes _ _ _ rfl (by simp) rfl

theorem ldSpHl : Statement (.ldSpHl) :=
  of_bytes _ _ _ rfl (by simp) rfl

theorem exDeHl : Statement (.exDeHl) :=
  of_bytes _ _ _ rfl (by simp) rfl

theorem exAfAf : Statement (.exAfAf) :=
  of_bytes _ _ _ rfl (by simp) rfl

theorem exx : Statement (.exx) :=
  of_bytes _ _ _ rfl (by simp) rfl

theorem jr (d : Byte) : Statement (.jr d) :=
  of_bytes _ _ _ rfl (by simp) rfl

theorem jrCc (cc : Cond) (d : Byte) : Statement (.jrCc cc d) :=
  of_bytes _ _ _ rfl (by simp) (by cases cc <;> rfl)

theorem djnz (d : Byte) : Statement (.djnz d) :=
  of_bytes _ _ _ rfl (by simp) rfl

theorem jpNn (nn : Word) : Statement (.jpNn nn) :=
  of_bytes _ _ _ rfl (by simp) rfl

theorem jpCcNn (cc : Cond) (nn : Word) : Statement (.jpCcNn cc nn) :=
  of_bytes _ _ _ rfl (by simp) (by cases cc <;> rfl)

theorem jpHl : Statement (.jpHl) :=
  of_bytes _ _ _ rfl (by simp) rfl

theorem addR (r : Reg) : Statement (.addR r) :=
  of_bytes _ _ _ rfl (by simp) (by cases r <;> rfl)

theorem addHl : Statement (.addHl) :=
  of_bytes _ _ _ rfl (by simp) rfl

theorem addN (n : Byte) : Statement (.addN n) :=
  of_bytes _ _ _ rfl (by simp) rfl

theorem adcR (r : Reg) : Statement (.adcR r) :=
  of_bytes _ _ _ rfl (by simp) (by cases r <;> rfl)

theorem adcHl : Statement (.adcHl) :=
  of_bytes _ _ _ rfl (by simp) rfl

theorem adcN (n : Byte) : Statement (.adcN n) :=
  of_bytes _ _ _ rfl (by simp) rfl

theorem subR (r : Reg) : Statement (.subR r) :=
  of_bytes _ _ _ rfl (by simp) (by cases r <;> rfl)

theorem subHl : Statement (.subHl) :=
  of_bytes _ _ _ rfl (by simp) rfl

theorem subN (n : Byte) : Statement (.subN n) :=
  of_bytes _ _ _ rfl (by simp) rfl

theorem sbcR (r : Reg) : Statement (.sbcR r) :=
  of_bytes _ _ _ rfl (by simp) (by cases r <;> rfl)

theorem sbcHl : Statement (.sbcHl) :=
  of_bytes _ _ _ rfl (by simp) rfl

theorem sbcN (n : Byte) : Statement (.sbcN n) :=
  of_bytes _ _ _ rfl (by simp) rfl

theorem andR (r : Reg) : Statement (.andR r) :=
  of_bytes _ _ _ rfl (by simp) (by cases r <;> rfl)

theorem andHl : Statement (.andHl) :=
  of_bytes _ _ _ rfl (by simp) rfl

theorem andN (n : Byte) : Statement (.andN n) :=
  of_bytes _ _ _ rfl (by simp) rfl

theorem xorR (r : Reg) : Statement (.xorR r) :=
  of_bytes _ _ _ rfl (by simp) (by cases r <;> rfl)

theorem xorHl : Statement (.xorHl) :=
  of_bytes _ _ _ rfl (by simp) rfl

theorem xorN (n : Byte) : Statement (.xorN n) :=
  of_bytes _ _ _ rfl (by simp) rfl

theorem orR (r : Reg) : Statement (.orR r) :=
  of_bytes _ _ _ rfl (by simp) (by cases r <;> rfl)

theorem orHl : Statement (.orHl) :=
  of_bytes _ _ _ rfl (by simp) rfl

theorem orN (n : Byte) : Statement (.orN n) :=
  of_bytes _ _ _ rfl (by simp) rfl

theorem cpR (r : Reg) : Statement (.cpR r) :=
  of_bytes _ _ _ rfl (by simp) (by cases r <;> rfl)

theorem cpHl : Statement (.cpHl) :=
  of_bytes _ _ _ rfl (by simp) rfl

theorem cpN (n : Byte) : Statement (.cpN n) :=
  of_bytes _ _ _ rfl (by simp) rfl

theorem incR (r : Reg) : Statement (.incR r) :=
  of_bytes _ _ _ rfl (by simp) (by cases r <;> rfl)

theorem incHl : Statement (.incHl) :=
  of_bytes _ _ _ rfl (by simp) rfl

theorem decR (r : Reg) : Statement (.decR r) :=
  of_bytes _ _ _ rfl (by simp) (by cases r <;> rfl)

theorem decHl : Statement (.decHl) :=
  of_bytes _ _ _ rfl (by simp) rfl

theorem daa : Statement (.daa) :=
  of_bytes _ _ _ rfl (by simp) rfl

theorem cpl : Statement (.cpl) :=
  of_bytes _ _ _ rfl (by simp) rfl

theorem scf : Statement (.scf) :=
  of_bytes _ _ _ rfl (by simp) rfl

theorem ccf : Statement (.ccf) :=
  of_bytes _ _ _ rfl (by simp) rfl

theorem rlca : Statement (.rlca) :=
  of_bytes _ _ _ rfl (by simp) rfl

theorem rrca : Statement (.rrca) :=
  of_bytes _ _ _ rfl (by simp) rfl

theorem rla : Statement (.rla) :=
  of_bytes _ _ _ rfl (by simp) rfl

theorem rra : Statement (.rra) :=
  of_bytes _ _ _ rfl (by simp) rfl

theorem addHlSs (ss : RegPair) : Statement (.addHlSs ss) :=
  of_bytes _ _ _ rfl (by simp) (by cases ss <;> rfl)

theorem incSs (ss : RegPair) : Statement (.incSs ss) :=
  of_bytes _ _ _ rfl (by simp) (by cases ss <;> rfl)

theorem decSs (ss : RegPair) : Statement (.decSs ss) :=
  of_bytes _ _ _ rfl (by simp) (by cases ss <;> rfl)

theorem ldir : Statement (.ldir) :=
  of_bytes _ _ _ rfl (by simp) rfl

theorem lddr : Statement (.lddr) :=
  of_bytes _ _ _ rfl (by simp) rfl

theorem pushQq (qq : StackPair) : Statement (.pushQq qq) :=
  of_bytes _ _ _ rfl (by simp) (by cases qq <;> rfl)

theorem popQq (qq : StackPair) : Statement (.popQq qq) :=
  of_bytes _ _ _ rfl (by simp) (by cases qq <;> rfl)

theorem pushIx : Statement (.pushIx) :=
  of_bytes _ _ _ rfl (by simp) rfl

theorem pushIy : Statement (.pushIy) :=
  of_bytes _ _ _ rfl (by simp) rfl

theorem popIx : Statement (.popIx) :=
  of_bytes _ _ _ rfl (by simp) rfl

theorem popIy : Statement (.popIy) :=
  of_bytes _ _ _ rfl (by simp) rfl

theorem exSpHl : Statement (.exSpHl) :=
  of_bytes _ _ _ rfl (by simp) rfl

theorem callNn (nn : Word) : Statement (.callNn nn) :=
  of_bytes _ _ _ rfl (by simp) rfl

theorem callCcNn (cc : Cond) (nn : Word) : Statement (.callCcNn cc nn) :=
  of_bytes _ _ _ rfl (by simp) (by cases cc <;> rfl)

theorem ret : Statement (.ret) :=
  of_bytes _ _ _ rfl (by simp) rfl

theorem retCc (cc : Cond) : Statement (.retCc cc) :=
  of_bytes _ _ _ rfl (by simp) (by cases cc <;> rfl)

theorem reti : Statement (.reti) :=
  of_bytes _ _ _ rfl (by simp) rfl

theorem rst (p : Byte) : Statement (.rst p) :=
  of_bytes _ _ _ rfl (by simp) (by
    generalize hk : p.toNat / 8 = k
    have : k < 32 := by have := p.isLt; omega
    interval_cases k <;> rfl)

theorem retn : Statement (.retn) :=
  of_bytes _ _ _ rfl (by simp) rfl

theorem rlcR (r : Reg) : Statement (.rlcR r) :=
  of_bytes _ _ _ rfl (by simp) (by cases r <;> rfl)

theorem rlcHl : Statement (.rlcHl) :=
  of_bytes _ _ _ rfl (by simp) rfl

theorem rrcR (r : Reg) : Statement (.rrcR r) :=
  of_bytes _ _ _ rfl (by simp) (by cases r <;> rfl)

theorem rrcHl : Statement (.rrcHl) :=
  of_bytes _ _ _ rfl (by simp) rfl

theorem rlR (r : Reg) : Statement (.rlR r) :=
  of_bytes _ _ _ rfl (by simp) (by cases r <;> rfl)

theorem rlHl : Statement (.rlHl) :=
  of_bytes _ _ _ rfl (by simp) rfl

theorem rrR (r : Reg) : Statement (.rrR r) :=
  of_bytes _ _ _ rfl (by simp) (by cases r <;> rfl)

theorem rrHl : Statement (.rrHl) :=
  of_bytes _ _ _ rfl (by simp) rfl

theorem slaR (r : Reg) : Statement (.slaR r) :=
  of_bytes _ _ _ rfl (by simp) (by cases r <;> rfl)

theorem slaHl : Statement (.slaHl) :=
  of_bytes _ _ _ rfl (by simp) rfl

theorem sraR (r : Reg) : Statement (.sraR r) :=
  of_bytes _ _ _ rfl (by simp) (by cases r <;> rfl)

theorem sraHl : Statement (.sraHl) :=
  of_bytes _ _ _ rfl (by simp) rfl

theorem srlR (r : Reg) : Statement (.srlR r) :=
  of_bytes _ _ _ rfl (by simp) (by cases r <;> rfl)

theorem srlHl : Statement (.srlHl) :=
  of_bytes _ _ _ rfl (by simp) rfl

theorem bitR (b : BitVec 3) (r : Reg) : Statement (.bitR b r) :=
  of_bytes _ _ _ rfl (by simp) (by cases r <;> rfl)

theorem bitHl (b : BitVec 3) : Statement (.bitHl b) :=
  of_bytes _ _ _ rfl (by simp) rfl

theorem resR (b : BitVec 3) (r : Reg) : Statement (.resR b r) :=
  of_bytes _ _ _ rfl (by simp) (by cases r <;> rfl)

theorem resHl (b : BitVec 3) : Statement (.resHl b) :=
  of_bytes _ _ _ rfl (by simp) rfl

theorem setR (b : BitVec 3) (r : Reg) : Statement (.setR b r) :=
  of_bytes _ _ _ rfl (by simp) (by cases r <;> rfl)

theorem setHl (b : BitVec 3) : Statement (.setHl b) :=
  of_bytes _ _ _ rfl (by simp) rfl

theorem inAN (n : Byte) : Statement (.inAN n) :=
  of_bytes _ _ _ rfl (by simp) rfl

theorem outNA (n : Byte) : Statement (.outNA n) :=
  of_bytes _ _ _ rfl (by simp) rfl

theorem nop : Statement (.nop) :=
  of_bytes _ _ _ rfl (by simp) rfl

theorem halt : Statement (.halt) :=
  of_bytes _ _ _ rfl (by simp) rfl

theorem di : Statement (.di) :=
  of_bytes _ _ _ rfl (by simp) rfl

theorem ei : Statement (.ei) :=
  of_bytes _ _ _ rfl (by simp) rfl

theorem im0 : Statement (.im0) :=
  of_bytes _ _ _ rfl (by simp) rfl

theorem im1 : Statement (.im1) :=
  of_bytes _ _ _ rfl (by simp) rfl

theorem im2 : Statement (.im2) :=
  of_bytes _ _ _ rfl (by simp) rfl

theorem ldIA : Statement (.ldIA) :=
  of_bytes _ _ _ rfl (by simp) rfl

theorem ldRA : Statement (.ldRA) :=
  of_bytes _ _ _ rfl (by simp) rfl

theorem ldAI : Statement (.ldAI) :=
  of_bytes _ _ _ rfl (by simp) rfl

theorem ldAR : Statement (.ldAR) :=
  of_bytes _ _ _ rfl (by simp) rfl

end Sys2Proof.Laws.EncodedLength
end

