-- ==== Sys2Proof/Laws/Step.lean ====
section
/-! SUPPORT. What one MachineStep and one action of the frame loop can do, said once. -/

namespace Sys2Proof.Machine

/-- The window offers four bytes. -/
theorem State.window_length (s : State) : s.window.length = 4 := rfl

/-- What fetching leaves (30_encoding.md R91, R92). -/
theorem State.fetched_eq (s : State) (i : Instr) :
    s.fetched i =
      { s with cpu := { s.cpu with
        pc := s.cpu.pc + BitVec.ofNat 16 i.length
        r := if s.cfg.rPolicy = .m1 then
            (if i.opcodeBytes = 2 then bumpR (bumpR s.cpu.r) else bumpR s.cpu.r)
          else s.cpu.r } } := by
  unfold State.fetched
  simp only [State.fetchR_eq]
  by_cases h : i.opcodeBytes = 2 <;> by_cases hp : s.cfg.rPolicy = .m1 <;> simp [h, hp, State.setPc]

@[simp] theorem State.fetched_mem (s : State) (i : Instr) : (s.fetched i).mem = s.mem := by rw [State.fetched_eq]
@[simp] theorem State.fetched_bus (s : State) (i : Instr) : (s.fetched i).bus = s.bus := by rw [State.fetched_eq]
@[simp] theorem State.fetched_video (s : State) (i : Instr) : (s.fetched i).video = s.video := by rw [State.fetched_eq]
@[simp] theorem State.fetched_tape (s : State) (i : Instr) : (s.fetched i).tape = s.tape := by rw [State.fetched_eq]
@[simp] theorem State.fetched_sched (s : State) (i : Instr) : (s.fetched i).sched = s.sched := by rw [State.fetched_eq]
@[simp] theorem State.fetched_cfg (s : State) (i : Instr) : (s.fetched i).cfg = s.cfg := by rw [State.fetched_eq]
@[simp] theorem State.fetched_free (s : State) (i : Instr) : (s.fetched i).free = s.free := by rw [State.fetched_eq]

/-- The five things a MachineStep can be (30_encoding.md R91, 60_exceptions.md R339), with the outcome of each. -/
theorem machineStep_cases (s : State) :
    (s.trapArmed = true ∧ machineStep s = .next (s.performFastLoad.charge s.cfg.trapCost)) ∨
    (s.trapArmed = false ∧ s.cpu.fault.isSome = true ∧ machineStep s = .next s) ∨
    (s.trapArmed = false ∧ s.cpu.fault = none ∧ s.cpu.halted = true ∧ machineStep s = .next s.haltedTick) ∨
    (s.trapArmed = false ∧ s.cpu.fault = none ∧ s.cpu.halted = false ∧
      ∃ i, s.decodeNext = .ok i ∧ machineStep s = exec i (s.fetched i)) ∨
    (s.trapArmed = false ∧ s.cpu.fault = none ∧ s.cpu.halted = false ∧
      ∃ e, s.decodeNext = .error e ∧ machineStep s = .next (s.raiseUnrecognised e.key)) := by
  unfold machineStep cpuStep
  cases ht : s.trapArmed <;> cases hf : s.cpu.fault <;> cases hh : s.cpu.halted <;> cases hd : s.decodeNext <;> simp

/-- What the frame loop's next action is (60_exceptions.md R338, R340). -/
theorem tick_cases (s : State) :
    (s.sched.mode = .stopped ∧ tick s = .next s) ∨
    (s.sched.mode ≠ .stopped ∧ (s.sched.mode ≠ .running ∨ s.cpu.fault.isSome ∨ s.lineTarget ≤ s.cpu.tstates) ∧
      tick s = .next s.endLine) ∨
    (s.sched.mode = .running ∧ s.cpu.fault = none ∧ s.cpu.tstates < s.lineTarget ∧ s.cpu.pc ∈ s.sched.breakpoints ∧
      tick s = .next (State.endLine { s with sched := { s.sched with mode := .paused } })) ∨
    (s.sched.mode = .running ∧ s.cpu.fault = none ∧ s.cpu.tstates < s.lineTarget ∧ s.cpu.pc ∉ s.sched.breakpoints ∧
      tick s = machineStep { s with sched := { s.sched with target := some s.lineTarget } }) := by
  unfold tick
  by_cases hs : s.sched.mode = .stopped
  · simp [hs]
  by_cases hc : s.sched.mode ≠ .running ∨ s.cpu.fault.isSome ∨ s.lineTarget ≤ s.cpu.tstates
  · right; left
    exact ⟨hs, hc, by rw [if_neg hs, if_pos hc]⟩
  obtain ⟨hr, hf, ht⟩ : s.sched.mode = .running ∧ s.cpu.fault = none ∧ s.cpu.tstates < s.lineTarget := by
    push Not at hc
    exact ⟨hc.1, by simpa using hc.2.1, hc.2.2⟩
  right; right
  rw [if_neg hs, if_neg hc]
  by_cases hb : s.cpu.pc ∈ s.sched.breakpoints
  · left
    exact ⟨hr, hf, ht, hb, by rw [if_pos hb]⟩
  · right
    exact ⟨hr, hf, ht, hb, by rw [if_neg hb]⟩

/-- A rendered row has the frame's width (60_exceptions.md R345). -/
theorem State.scanline_length (s : State) (line : Nat) : (s.scanline line).length = s.cfg.frameWidth := by
  unfold State.scanline
  split
  · simp
  · simp [cellPixels, Config.frameWidth, List.length_flatMap]
    omega

/-- The diagnostics of these writes: all or none, by the protection mode (20_memory.md R63). -/
theorem droppedWrites_eq (c : Config) (addrs : List Word) :
    droppedWrites c addrs =
      if c.romProtect = .disallow then (addrs.filter fun x => x.toNat < romSize).map .romWriteDropped else [] := by
  unfold droppedWrites romDiagnostic
  split <;> simp_all

/-- Fetching moves no address an instruction writes at. -/
@[simp] theorem storeAddresses_fetched (i : Instr) (s : State) : storeAddresses i (s.fetched i) = storeAddresses i s := by
  rw [State.fetched_eq]
  cases i <;> rfl

end Sys2Proof.Machine
end

