-- ==== Sys2Proof/Tests/Slice0.lean ====
section
/-! SUPPORT. The model's own tests. Expected values come from the spec: the words of 30_encoding.md, and the vectors of
95_test_vectors.md by their own names (L6, A8, ...). Then, for every obligation with hypotheses, a state and operands that
meet all of them together. -/

open Sys2Proof Sys2Proof.Machine Sys2Proof.Claim

namespace Sys2Proof.Tests

/-! ## Well-formedness: each check refuses an ill-formed term -/

/-- `JR cc` has the four conditions NZ, Z, NC, C only (30_encoding.md R97). -/
theorem test_wf_jr_cc : ¬ WellFormed (.jrCc .po 0) ∧ ¬ WellFormed (.jrCc .m 0) ∧ WellFormed (.jrCc .c 0) := by decide

/-- `RST p` has the eight targets 00H to 38H only (45_stack_calls.md R245). -/
theorem test_wf_rst : ¬ WellFormed (.rst 0x01) ∧ ¬ WellFormed (.rst 0x40) ∧ WellFormed (.rst 0x38) := by decide

/-! ## Decoding: a word of every constructor, written from 30_encoding.md R97 to R100 -/

/-- Each list of bytes decodes to its instruction and to nothing more. -/
def readAs (words : List (List Byte × Instr)) : Bool :=
  words.all fun w => decide (decode w.1 = .ok (w.2, []))

theorem test_decode_loads : readAs [
    ([0x31, 0xFE, 0xFF], .ldDdNn .sp 0xFFFE), ([0xDD, 0x21, 0x00, 0x80], .ldIxNn 0x8000), ([0xFD, 0x21, 0x3A, 0x5C], .ldIyNn 0x5C3A),
    ([0x78], .ldRR .a .b), ([0x3E, 0x99], .ldRN .a 0x99), ([0x6E], .ldRHl .l),
    ([0x74], .ldHlR .h), ([0x36, 0x5A], .ldHlN 0x5A), ([0x0A], .ldABc),
    ([0x1A], .ldADe), ([0x3A, 0x02, 0x90], .ldANn 0x9002), ([0x02], .ldBcA),
    ([0x12], .ldDeA), ([0x32, 0x00, 0x90], .ldNnA 0x9000), ([0x2A, 0x34, 0x12], .ldHlNn 0x1234),
    ([0x22, 0xFF, 0x3F], .ldNnHl 0x3FFF), ([0xF9], .ldSpHl)] = true := by
  decide

theorem test_decode_exchanges : readAs [
    ([0xEB], .exDeHl), ([0x08], .exAfAf), ([0xD9], .exx),
    ([0xE3], .exSpHl)] = true := by
  decide

theorem test_decode_jumps : readAs [
    ([0x18, 0xFE], .jr 0xFE), ([0x20, 0xFC], .jrCc .nz 0xFC), ([0x38, 0x05], .jrCc .c 0x05),
    ([0x10, 0xFE], .djnz 0xFE), ([0xC3, 0x00, 0x80], .jpNn 0x8000), ([0xEA, 0x00, 0x90], .jpCcNn .pe 0x9000),
    ([0xE9], .jpHl)] = true := by
  decide

theorem test_decode_alu : readAs [
    ([0x80], .addR .b), ([0x86], .addHl), ([0xC6, 0x01], .addN 1),
    ([0x89], .adcR .c), ([0x8E], .adcHl), ([0xCE, 0x00], .adcN 0),
    ([0x97], .subR .a), ([0x96], .subHl), ([0xD6, 0x02], .subN 2),
    ([0x9A], .sbcR .d), ([0x9E], .sbcHl), ([0xDE, 0xFF], .sbcN 0xFF)] = true := by
  decide

theorem test_decode_logic : readAs [
    ([0xA7], .andR .a), ([0xA6], .andHl), ([0xE6, 0x0F], .andN 0x0F),
    ([0xAB], .xorR .e), ([0xAE], .xorHl), ([0xEE, 0x01], .xorN 1),
    ([0xB4], .orR .h), ([0xB6], .orHl), ([0xF6, 0x80], .orN 0x80),
    ([0xBD], .cpR .l), ([0xBE], .cpHl), ([0xFE, 0x10], .cpN 0x10)] = true := by
  decide

theorem test_decode_accumulator : readAs [
    ([0x3C], .incR .a), ([0x34], .incHl), ([0x05], .decR .b),
    ([0x35], .decHl), ([0x27], .daa), ([0x2F], .cpl),
    ([0x37], .scf), ([0x3F], .ccf), ([0x07], .rlca),
    ([0x0F], .rrca), ([0x17], .rla), ([0x1F], .rra)] = true := by
  decide

theorem test_decode_wide_and_block : readAs [
    ([0x39], .addHlSs .sp), ([0x13], .incSs .de), ([0x0B], .decSs .bc),
    ([0xED, 0xB0], .ldir), ([0xED, 0xB8], .lddr)] = true := by
  decide

theorem test_decode_stack : readAs [
    ([0xF5], .pushQq .af), ([0xD1], .popQq .de), ([0xDD, 0xE5], .pushIx),
    ([0xFD, 0xE5], .pushIy), ([0xDD, 0xE1], .popIx), ([0xFD, 0xE1], .popIy),
    ([0xCD, 0x00, 0x90], .callNn 0x9000), ([0xDC, 0x00, 0x90], .callCcNn .c 0x9000), ([0xC9], .ret),
    ([0xF0], .retCc .p), ([0xED, 0x4D], .reti), ([0xEF], .rst 0x28),
    ([0xED, 0x45], .retn)] = true := by
  decide

theorem test_decode_cb_rotates : readAs [
    ([0xCB, 0x00], .rlcR .b), ([0xCB, 0x06], .rlcHl), ([0xCB, 0x0F], .rrcR .a),
    ([0xCB, 0x0E], .rrcHl), ([0xCB, 0x11], .rlR .c), ([0xCB, 0x16], .rlHl),
    ([0xCB, 0x1B], .rrR .e), ([0xCB, 0x1E], .rrHl), ([0xCB, 0x25], .slaR .l),
    ([0xCB, 0x26], .slaHl), ([0xCB, 0x2A], .sraR .d), ([0xCB, 0x2E], .sraHl),
    ([0xCB, 0x3C], .srlR .h), ([0xCB, 0x3E], .srlHl)] = true := by
  decide

theorem test_decode_cb_bits : readAs [
    ([0xCB, 0x7C], .bitR 7 .h), ([0xCB, 0x46], .bitHl 0), ([0xCB, 0x87], .resR 0 .a),
    ([0xCB, 0xBE], .resHl 7), ([0xCB, 0xC0], .setR 0 .b), ([0xCB, 0xCE], .setHl 1)] = true := by
  decide

theorem test_decode_system : readAs [
    ([0xDB, 0xFE], .inAN 0xFE), ([0xD3, 0xFE], .outNA 0xFE), ([0x00], .nop),
    ([0x76], .halt), ([0xF3], .di), ([0xFB], .ei),
    ([0xED, 0x46], .im0), ([0xED, 0x56], .im1), ([0xED, 0x5E], .im2),
    ([0xED, 0x47], .ldIA), ([0xED, 0x4F], .ldRA), ([0xED, 0x57], .ldAI),
    ([0xED, 0x5F], .ldAR)] = true := by
  decide

/-- Unrecognised encodings are rejected by their opcode bytes (30_encoding.md R101; 95_test_vectors.md, 3.1). -/
theorem test_decode_unrecognised :
    decode [0xED, 0x44] = .error (.unrecognised [0xED, 0x44]) ∧
    decode [0xED, 0xA0] = .error (.unrecognised [0xED, 0xA0]) ∧
    decode [0xCB, 0x37, 0x00] = .error (.unrecognised [0xCB, 0x37]) ∧
    decode [0xDD, 0x7E, 0x00] = .error (.unrecognised [0xDD, 0x7E]) ∧
    decode [0xDD, 0xDD] = .error (.unrecognised [0xDD, 0xDD]) ∧
    decode [0xFD, 0xE9] = .error (.unrecognised [0xFD, 0xE9]) := by
  decide

/-- The host's numbering of a table word: the first byte is the highest (spec/opcode_table.json: `DJNZ e` has its opcode
in bits 15..8; notes/assumptions/5.md). -/
theorem test_decode_table_word :
    decodeTableWord 16 0x1000 = some (.djnz 0) ∧ decodeTableWord 24 0xC30000 = some (.jpNn 0) ∧
    decodeTableWord 16 0xEDB0 = some .ldir ∧ decodeTableWord 8 0x76 = some .halt ∧
    decodeTableWord 32 0xDD210000 = some (.ldIxNn 0) ∧ decodeTableWord 16 0xED44 = none := by
  decide

/-! ## One step of each family: the vectors of 95_test_vectors.md, part 2 -/

/-- The state of the vectors: the test-mode reset state, `bytes` at 0x8000, `PC` there, the registers as `setup` leaves
them, the bytes of `pokes` in memory. FRAME is left out. -/
def start (setup : Cpu → Cpu) (bytes : List Byte) (pokes : List (Nat × Byte)) : State :=
  let cpu := setup { State.reset.cpu with pc := 0x8000 }
  { State.reset with
    cpu := cpu
    mem := pokes.foldl (fun m p => m.set p.1 p.2) (Memory.place [] cpu.pc bytes)
    video := { State.reset.video with frame := [] } }

/-- The outcome is a next state that passes `p`. -/
def nextIs (out : Result) (p : State → Bool) : Bool :=
  match out with
  | .next t => p t
  | .fault _ => false
  | .refused _ => false

/-- L1_ld_dd_nn. -/
theorem test_step_L1_ld_dd_nn :
    nextIs (step (start (fun c => c) [0x31, 0xFE, 0xFF] [])) (fun t =>
      t.cpu.sp == 0xFFFE && t.cpu.pc == 0x8003 && t.cpu.r == 1 && t.cpu.tstates == 10) = true := by
  decide

/-- L3_ld_r_n. -/
theorem test_step_L3_ld_r_n :
    nextIs (step (start (fun c => c) [0x3E, 0x99] [])) (fun t =>
      t.cpu.a == 0x99 && t.cpu.tstates == 7) = true := by
  decide

/-- L4_ld_r_hl. -/
theorem test_step_L4_ld_r_hl :
    nextIs (step (start (fun c => { c with h := 0x90 }) [0x7E] [(0x9000, 0x42)])) (fun t =>
      t.cpu.a == 0x42 && t.cpu.tstates == 7) = true := by
  decide

/-- L6_ld_hl_r_rom. -/
theorem test_step_L6_ld_hl_r_rom :
    nextIs (step (start (fun c => { c with h := 0x10, b := 0x77 }) [0x70] [])) (fun t =>
      t.memRead 0x1000 == 0x00 && t.cpu.pc == 0x8001 && t.cpu.tstates == 7) = true := by
  decide

/-- L14_ld_hl_nn_wraps. -/
theorem test_step_L14_ld_hl_nn_wraps :
    nextIs (step (start (fun c => c) [0x2A, 0xFF, 0xFF] [(0xFFFF, 0x34), (0x0000, 0x12)])) (fun t =>
      t.cpu.h == 0x12 && t.cpu.l == 0x34 && t.cpu.tstates == 16) = true := by
  decide

/-- L15_ld_nn_hl_straddles_rom. -/
theorem test_step_L15_ld_nn_hl_straddles_rom :
    nextIs (step (start (fun c => { c with h := 0xBE, l := 0xEF }) [0x22, 0xFF, 0x3F] [(0x3FFF, 0x11)])) (fun t =>
      t.memRead 0x3FFF == 0x11 && t.memRead 0x4000 == 0xBE && t.cpu.tstates == 16) = true := by
  decide

/-- L18_ex_af_af. -/
theorem test_step_L18_ex_af_af :
    nextIs (step (start (fun c => { c with a := 0x12, f := 0x34, a_ := 0x56, f_ := 0x78 }) [0x08] [])) (fun t =>
      t.cpu.a == 0x56 && t.cpu.f == 0x78 && t.cpu.a_ == 0x12 && t.cpu.f_ == 0x34 && t.cpu.tstates == 4) = true := by
  decide

/-- L19_exx. -/
theorem test_step_L19_exx :
    nextIs (step (start (fun c => { c with b := 1, c := 2, h_ := 0xA5, b_ := 0xA1 }) [0xD9] [])) (fun t =>
      t.cpu.b == 0xA1 && t.cpu.b_ == 1 && t.cpu.c == 0 && t.cpu.c_ == 2 && t.cpu.h == 0xA5 && t.cpu.h_ == 0 && t.cpu.tstates == 4) = true := by
  decide

/-- J3_jr_backwards. -/
theorem test_step_J3_jr_backwards :
    nextIs (step (start (fun c => c) [0x18, 0x80] [])) (fun t =>
      t.cpu.pc == 0x7F82 && t.cpu.tstates == 12) = true := by
  decide

/-- J4_jr_wraps. -/
theorem test_step_J4_jr_wraps :
    nextIs (step (start (fun c => { c with pc := 0xFFF8 }) [0x18, 0x10] [])) (fun t =>
      t.cpu.pc == 0x000A && t.cpu.tstates == 12) = true := by
  decide

/-- J8_jr_cc_not_taken. -/
theorem test_step_J8_jr_cc_not_taken :
    nextIs (step (start (fun c => { c with f := 0x01 }) [0x30, 0x05] [])) (fun t =>
      t.cpu.pc == 0x8002 && t.cpu.tstates == 7) = true := by
  decide

/-- J10_djnz_falls_through. -/
theorem test_step_J10_djnz_falls_through :
    nextIs (step (start (fun c => { c with b := 0x01, f := 0xFF }) [0x10, 0xFE] [])) (fun t =>
      t.cpu.b == 0 && t.cpu.pc == 0x8002 && t.cpu.f == 0xFF && t.cpu.tstates == 8) = true := by
  decide

/-- J11_djnz_wraps. -/
theorem test_step_J11_djnz_wraps :
    nextIs (step (start (fun c => c) [0x10, 0xFE] [])) (fun t =>
      t.cpu.b == 0xFF && t.cpu.pc == 0x8000 && t.cpu.tstates == 13) = true := by
  decide

/-- J16_jp_pe. -/
theorem test_step_J16_jp_pe :
    nextIs (step (start (fun c => { c with f := 0x04 }) [0xEA, 0x00, 0x90] [])) (fun t =>
      t.cpu.pc == 0x9000 && t.cpu.tstates == 10) = true := by
  decide

/-- J17_jp_hl. -/
theorem test_step_J17_jp_hl :
    nextIs (step (start (fun c => { c with h := 0x12, l := 0x34 }) [0xE9] [])) (fun t =>
      t.cpu.pc == 0x1234 && t.cpu.tstates == 4) = true := by
  decide

/-- A2_add_hl. -/
theorem test_step_A2_add_hl :
    nextIs (step (start (fun c => { c with a := 0x80, h := 0x90 }) [0x86] [(0x9000, 0x80)])) (fun t =>
      t.cpu.a == 0 && t.cpu.f == 0x45 && t.cpu.tstates == 7) = true := by
  decide

/-- A5_adc. -/
theorem test_step_A5_adc :
    nextIs (step (start (fun c => { c with a := 0x7F, f := 0x01 }) [0xCE, 0x00] [])) (fun t =>
      t.cpu.a == 0x80 && t.cpu.f == 0x94 && t.cpu.tstates == 7) = true := by
  decide

/-- A11_sub_overflow. -/
theorem test_step_A11_sub_overflow :
    nextIs (step (start (fun c => { c with a := 0x7F }) [0xD6, 0x80] [])) (fun t =>
      t.cpu.a == 0xFF && t.cpu.f == 0xAF && t.cpu.tstates == 7) = true := by
  decide

/-- A13_sbc. -/
theorem test_step_A13_sbc :
    nextIs (step (start (fun c => { c with f := 0x01 }) [0xDE, 0xFF] [])) (fun t =>
      t.cpu.a == 0 && t.cpu.f == 0x53 && t.cpu.tstates == 7) = true := by
  decide

/-- E3_cp. -/
theorem test_step_E3_cp :
    nextIs (step (start (fun c => { c with a := 0x00 }) [0xFE, 0x28] [])) (fun t =>
      t.cpu.a == 0 && t.cpu.f == 0x9B && t.cpu.tstates == 7) = true := by
  decide

/-- A17_and. -/
theorem test_step_A17_and :
    nextIs (step (start (fun c => { c with a := 0xFF, f := 0x01 }) [0xA7] [])) (fun t =>
      t.cpu.a == 0xFF && t.cpu.f == 0xBC && t.cpu.tstates == 4) = true := by
  decide

/-- A19_xor. -/
theorem test_step_A19_xor :
    nextIs (step (start (fun c => { c with a := 0x5A, f := 0xFF }) [0xAF] [])) (fun t =>
      t.cpu.a == 0 && t.cpu.f == 0x44 && t.cpu.tstates == 4) = true := by
  decide

/-- A23_or_hl. -/
theorem test_step_A23_or_hl :
    nextIs (step (start (fun c => { c with a := 0x28, h := 0x90 }) [0xB6] [])) (fun t =>
      t.cpu.a == 0x28 && t.cpu.f == 0x2C && t.cpu.tstates == 7) = true := by
  decide

/-- A24_inc_keeps_carry. -/
theorem test_step_A24_inc_keeps_carry :
    nextIs (step (start (fun c => { c with a := 0x7F, f := 0x01 }) [0x3C] [])) (fun t =>
      t.cpu.a == 0x80 && t.cpu.f == 0x95 && t.cpu.tstates == 4) = true := by
  decide

/-- A28_inc_hl_rom. -/
theorem test_step_A28_inc_hl_rom :
    nextIs (step (start (fun c => { c with h := 0x01 }) [0x34] [(0x0100, 0x7F)])) (fun t =>
      t.memRead 0x0100 == 0x7F && t.cpu.f == 0x94 && t.cpu.tstates == 11) = true := by
  decide

/-- A30_dec. -/
theorem test_step_A30_dec :
    nextIs (step (start (fun c => { c with a := 0x80, f := 0x01 }) [0x3D] [])) (fun t =>
      t.cpu.a == 0x7F && t.cpu.f == 0x3F && t.cpu.tstates == 4) = true := by
  decide

/-- A36_daa_subtract. -/
theorem test_step_A36_daa_subtract :
    nextIs (step (start (fun c => { c with a := 0x0F, f := 0x12 }) [0x27] [])) (fun t =>
      t.cpu.a == 0x09 && t.cpu.f == 0x0E && t.cpu.tstates == 4) = true := by
  decide

/-- A37_daa_both. -/
theorem test_step_A37_daa_both :
    nextIs (step (start (fun c => { c with a := 0xFA, f := 0x13 }) [0x27] [])) (fun t =>
      t.cpu.a == 0x94 && t.cpu.f == 0x83 && t.cpu.tstates == 4) = true := by
  decide

/-- A39_cpl. -/
theorem test_step_A39_cpl :
    nextIs (step (start (fun c => { c with a := 0xFF, f := 0xC5 }) [0x2F] [])) (fun t =>
      t.cpu.a == 0 && t.cpu.f == 0xD7 && t.cpu.tstates == 4) = true := by
  decide

/-- A40_scf. -/
theorem test_step_A40_scf :
    nextIs (step (start (fun c => { c with a := 0x28, f := 0xD6 }) [0x37] [])) (fun t =>
      t.cpu.f == 0xED && t.cpu.tstates == 4) = true := by
  decide

/-- A42_ccf. -/
theorem test_step_A42_ccf :
    nextIs (step (start (fun c => { c with a := 0xFF, f := 0x82 }) [0x3F] [])) (fun t =>
      t.cpu.f == 0xA9 && t.cpu.tstates == 4) = true := by
  decide

/-- A44_rlca_keeps_z. -/
theorem test_step_A44_rlca_keeps_z :
    nextIs (step (start (fun c => { c with a := 0x40, f := 0xD7 }) [0x07] [])) (fun t =>
      t.cpu.a == 0x80 && t.cpu.f == 0xC4 && t.cpu.tstates == 4) = true := by
  decide

/-- A48_rra. -/
theorem test_step_A48_rra :
    nextIs (step (start (fun c => { c with a := 0x01, f := 0x01 }) [0x1F] [])) (fun t =>
      t.cpu.a == 0x80 && t.cpu.f == 0x01 && t.cpu.tstates == 4) = true := by
  decide

/-- W1_add_hl_bc. -/
theorem test_step_W1_add_hl_bc :
    nextIs (step (start (fun c => { c with h := 0x0F, l := 0xFF, c := 1, f := 0xC4 }) [0x09] [])) (fun t =>
      t.cpu.h == 0x10 && t.cpu.l == 0 && t.cpu.f == 0xD4 && t.cpu.tstates == 11) = true := by
  decide

/-- W6_dec_sp. -/
theorem test_step_W6_dec_sp :
    nextIs (step (start (fun c => { c with sp := 0, f := 0x5A }) [0x3B] [])) (fun t =>
      t.cpu.sp == 0xFFFF && t.cpu.f == 0x5A && t.cpu.tstates == 6) = true := by
  decide

/-- B1_ldir. -/
theorem test_step_B1_ldir :
    nextIs (step (start (fun c => { c with h := 0x90, d := 0xA0, c := 3, f := 0xFF }) [0xED, 0xB0] [(0x9000, 0x11)])) (fun t =>
      t.memRead 0xA000 == 0x11 && t.cpu.c == 2 && t.cpu.e == 1 && t.cpu.l == 1 && t.cpu.pc == 0x8000 && t.cpu.f == 0xE9 && t.cpu.r == 2 && t.cpu.tstates == 21) = true := by
  decide

/-- B2_lddr. -/
theorem test_step_B2_lddr :
    nextIs (step (start (fun c => { c with h := 0x90, l := 2, d := 0xA0, e := 2, c := 3 }) [0xED, 0xB8] [(0x9002, 0x33)])) (fun t =>
      t.memRead 0xA002 == 0x33 && t.cpu.c == 2 && t.cpu.e == 1 && t.cpu.l == 1 && t.cpu.pc == 0x8000 && t.cpu.f == 0x04 && t.cpu.tstates == 21) = true := by
  decide

/-- S2_pop_af. -/
theorem test_step_S2_pop_af :
    nextIs (step (start (fun c => { c with sp := 0xC000 }) [0xF1] [(0xC000, 0xFF), (0xC001, 0x80)])) (fun t =>
      t.cpu.a == 0x80 && t.cpu.f == 0xFF && t.cpu.sp == 0xC002 && t.cpu.tstates == 10) = true := by
  decide

/-- S5_push_loses_low_byte. -/
theorem test_step_S5_push_loses_low_byte :
    nextIs (step (start (fun c => { c with b := 0x12, c := 0x34, sp := 0x4001 }) [0xC5] [(0x3FFF, 0xEE)])) (fun t =>
      t.memRead 0x4000 == 0x12 && t.memRead 0x3FFF == 0xEE && t.cpu.sp == 0x3FFF && t.cpu.tstates == 11) = true := by
  decide

/-- S7_push_iy. -/
theorem test_step_S7_push_iy :
    nextIs (step (start (fun c => { c with iy := 0xF00D, sp := 0xC000 }) [0xFD, 0xE5] [])) (fun t =>
      t.memRead 0xBFFF == 0xF0 && t.memRead 0xBFFE == 0x0D && t.cpu.sp == 0xBFFE && t.cpu.r == 2 && t.cpu.tstates == 15) = true := by
  decide

/-- S8_pop_ix. -/
theorem test_step_S8_pop_ix :
    nextIs (step (start (fun c => { c with sp := 0xC000 }) [0xDD, 0xE1] [(0xC000, 0x78), (0xC001, 0x56)])) (fun t =>
      t.cpu.ix == 0x5678 && t.cpu.sp == 0xC002 && t.cpu.tstates == 14) = true := by
  decide

/-- S10_ex_sp_hl. -/
theorem test_step_S10_ex_sp_hl :
    nextIs (step (start (fun c => { c with h := 0x12, l := 0x34, sp := 0xC000 }) [0xE3] [(0xC000, 0xCD), (0xC001, 0xAB)])) (fun t =>
      t.memRead 0xC000 == 0x34 && t.memRead 0xC001 == 0x12 && t.cpu.h == 0xAB && t.cpu.l == 0xCD && t.cpu.sp == 0xC000 && t.cpu.tstates == 19) = true := by
  decide

/-- S11_call_not_taken. -/
theorem test_step_S11_call_not_taken :
    nextIs (step (start (fun c => { c with sp := 0xC000 }) [0xCC, 0x00, 0x90] [])) (fun t =>
      t.cpu.pc == 0x8003 && t.cpu.sp == 0xC000 && t.cpu.tstates == 10) = true := by
  decide

/-- S12_call_taken. -/
theorem test_step_S12_call_taken :
    nextIs (step (start (fun c => { c with f := 1, sp := 0xC000 }) [0xDC, 0x00, 0x90] [])) (fun t =>
      t.memRead 0xBFFF == 0x80 && t.memRead 0xBFFE == 0x03 && t.cpu.pc == 0x9000 && t.cpu.sp == 0xBFFE && t.cpu.tstates == 17) = true := by
  decide

/-- S15_ret_not_taken. -/
theorem test_step_S15_ret_not_taken :
    nextIs (step (start (fun c => { c with f := 0x40, sp := 0xC000 }) [0xC0] [])) (fun t =>
      t.cpu.pc == 0x8001 && t.cpu.sp == 0xC000 && t.cpu.tstates == 5) = true := by
  decide

/-- S17_retn. -/
theorem test_step_S17_retn :
    nextIs (step (start (fun c => { c with sp := 0xC000, iff2 := true }) [0xED, 0x45] [(0xC000, 0x34), (0xC001, 0x12)])) (fun t =>
      t.cpu.pc == 0x1234 && t.cpu.sp == 0xC002 && t.cpu.iff1 && t.cpu.iff2 && t.cpu.tstates == 14) = true := by
  decide

/-- S20_rst. -/
theorem test_step_S20_rst :
    nextIs (step (start (fun c => { c with sp := 0xC000 }) [0xD7] [])) (fun t =>
      t.cpu.pc == 0x0010 && t.cpu.sp == 0xBFFE && t.cpu.tstates == 11) = true := by
  decide

/-- Q2_rlc_hl. -/
theorem test_step_Q2_rlc_hl :
    nextIs (step (start (fun c => { c with h := 0x90 }) [0xCB, 0x06] [(0x9000, 0x85)])) (fun t =>
      t.memRead 0x9000 == 0x0B && t.cpu.f == 0x09 && t.cpu.r == 2 && t.cpu.tstates == 15) = true := by
  decide

/-- Q5_rl. -/
theorem test_step_Q5_rl :
    nextIs (step (start (fun c => { c with f := 1 }) [0xCB, 0x12] [])) (fun t =>
      t.cpu.d == 1 && t.cpu.f == 0 && t.cpu.tstates == 8) = true := by
  decide

/-- Q7_rr. -/
theorem test_step_Q7_rr :
    nextIs (step (start (fun c => { c with f := 1 }) [0xCB, 0x1C] [])) (fun t =>
      t.cpu.h == 0x80 && t.cpu.f == 0x80 && t.cpu.tstates == 8) = true := by
  decide

/-- Q8_sla. -/
theorem test_step_Q8_sla :
    nextIs (step (start (fun c => { c with l := 0xC0 }) [0xCB, 0x25] [])) (fun t =>
      t.cpu.l == 0x80 && t.cpu.f == 0x81 && t.cpu.tstates == 8) = true := by
  decide

/-- Q11_sra. -/
theorem test_step_Q11_sra :
    nextIs (step (start (fun c => { c with a := 0xFF }) [0xCB, 0x2F] [])) (fun t =>
      t.cpu.a == 0xFF && t.cpu.f == 0xAD && t.cpu.tstates == 8) = true := by
  decide

/-- Q12_srl. -/
theorem test_step_Q12_srl :
    nextIs (step (start (fun c => { c with a := 0x81 }) [0xCB, 0x3F] [])) (fun t =>
      t.cpu.a == 0x40 && t.cpu.f == 0x01 && t.cpu.tstates == 8) = true := by
  decide

/-- Q17_bit_keeps_five_flags. -/
theorem test_step_Q17_bit_keeps_five_flags :
    nextIs (step (start (fun c => { c with a := 0x08, f := 0xC5 }) [0xCB, 0x5F] [])) (fun t =>
      t.cpu.a == 0x08 && t.cpu.f == 0x95 && t.cpu.tstates == 8) = true := by
  decide

/-- Q19_res_hl. -/
theorem test_step_Q19_res_hl :
    nextIs (step (start (fun c => { c with h := 0x90 }) [0xCB, 0xBE] [(0x9000, 0xFF)])) (fun t =>
      t.memRead 0x9000 == 0x7F && t.cpu.tstates == 15) = true := by
  decide

/-- Q22_set_hl_rom. -/
theorem test_step_Q22_set_hl_rom :
    nextIs (step (start (fun c => { c with h := 0x20 }) [0xCB, 0xCE] [])) (fun t =>
      t.memRead 0x2000 == 0x00 && t.cpu.tstates == 15) = true := by
  decide

/-- I13_ld_i_a. -/
theorem test_step_I13_ld_i_a :
    nextIs (step (start (fun c => { c with a := 0x3F, f := 0xFF }) [0xED, 0x47] [])) (fun t =>
      t.cpu.i == 0x3F && t.cpu.f == 0xFF && t.cpu.tstates == 9) = true := by
  decide

/-- I15_ld_a_i. -/
theorem test_step_I15_ld_a_i :
    nextIs (step (start (fun c => { c with i := 0x80, iff2 := true, f := 0xFF }) [0xED, 0x57] [])) (fun t =>
      t.cpu.a == 0x80 && t.cpu.f == 0x85 && t.cpu.tstates == 9) = true := by
  decide

/-- I18_ld_a_r. -/
theorem test_step_I18_ld_a_r :
    nextIs (step (start (fun c => { c with r := 0xFF }) [0xED, 0x5F] [])) (fun t =>
      t.cpu.a == 0x81 && t.cpu.r == 0x81 && t.cpu.f == 0x80 && t.cpu.tstates == 9) = true := by
  decide

/-- I14_ld_r_a. -/
theorem test_step_I14_ld_r_a :
    nextIs (step (start (fun c => { c with a := 0xFF }) [0xED, 0x4F] [])) (fun t =>
      t.cpu.r == 0xFF && t.cpu.tstates == 9) = true := by
  decide

/-- H1_halt. -/
theorem test_step_H1_halt :
    nextIs (step (start (fun c => c) [0x76] [])) (fun t =>
      t.cpu.pc == 0x8001 && t.cpu.r == 1 && t.cpu.halted && t.cpu.tstates == 4) = true := by
  decide

/-- I1: all eight keyboard rows ANDed. -/
theorem test_step_I1_in :
    nextIs (step { start (fun c => { c with f := 0xFF }) [0xDB, 0xFE] [] with
      bus := { kb := #v[0xFE, 0xFD, 0xFF, 0xFF, 0xFF, 0xFF, 0xFF, 0xEF], border := 0 } }) (fun t =>
      t.cpu.a == 0xEC && t.cpu.f == 0xFF) = true := by
  decide

/-- I7: an even port sets the border. -/
theorem test_step_I7_out :
    nextIs (step (start (fun c => { c with a := 0xFA }) [0xD3, 0xFE] [])) (fun t => t.bus.border == 2) = true := by
  decide

/-- H1, its interrupt: the halt ends, `PC` is pushed. -/
theorem test_interrupt_H1 :
    let s := start (fun c => { c with pc := 0x8001, halted := true, iff1 := true, iff2 := true, sp := 0xC000, r := 3 }) [] []
    let t := s.interrupt
    t.cpu.halted = false ∧ t.cpu.iff1 = false ∧ t.cpu.iff2 = false ∧ t.cpu.sp = 0xBFFE ∧ t.memRead 0xBFFF = 0x80 ∧
      t.memRead 0xBFFE = 0x01 ∧ t.cpu.pc = 0x0038 ∧ t.cpu.r = 4 ∧ t.cpu.tstates = 13 := by
  decide

/-- 3.1: `NEG` (ED 44) is unrecognised; the fault holds its address and bytes, and nothing else changes. -/
theorem test_step_unrecognised :
    let s := start (fun c => { c with a := 0x12, f := 0x34, sp := 0xC000 }) [0xED, 0x44] []
    nextIs (step { s with sched := { s.sched with mode := .running } }) (fun t =>
      t.cpu.fault == some { addr := 0x8000, bytes := [0xED, 0x44] } && t.sched.mode == .paused && t.cpu.pc == 0x8000 &&
      t.cpu.r == 0 && t.cpu.tstates == 0 && t.cpu.a == 0x12 && t.cpu.f == 0x34 && t.mem == s.mem) = true := by
  decide

/-! ## The tape, the video generator, the frame loop, the host (part 3) -/

/-- P0: two blocks; the third runs past the end and is dropped. -/
theorem test_parse_P0 :
    parseTape [0x03, 0x00, 0x00, 0xAA, 0xBB, 0x05, 0x00, 0xFF, 0x01, 0x02, 0x03, 0xFC, 0x09, 0x00, 0xFF] =
      [[0x00, 0xAA, 0xBB], [0xFF, 0x01, 0x02, 0x03, 0xFC]] := by
  decide

/-- A trap state of the vectors T1 to T6, with the return address 0x8003 on the stack. -/
def trap (a : Byte) (de : Byte) (f : Byte) : State :=
  { start (fun c => { c with pc := 0x0556, a := a, e := de, f := f, sp := 0xBFFE, ix := 0x9000 }) []
      [(0xBFFE, 0x03), (0xBFFF, 0x80)] with
    tape := { blocks := [[0x00, 0xAA, 0xBB], [0xFF, 0x01, 0x02, 0x03, 0xFC]], pos := 0, playing := true, autotype := .idle } }

/-- T1, T4: a match; no more bytes are copied than the block has. -/
theorem test_trap_T4_match :
    nextIs (step (trap 0x00 0x0A 0x01)) (fun t => t.memRead 0x9000 == 0xAA && t.memRead 0x9001 == 0xBB &&
      t.memRead 0x9002 == 0 && t.cpu.f == 0x01 && t.tape.pos == 1 && t.cpu.pc == 0x8003 && t.cpu.sp == 0xC000 &&
      t.cpu.r == 0) = true := by
  decide

/-- T2: a flag mismatch. -/
theorem test_trap_T2_mismatch :
    nextIs (step (trap 0xFF 0x02 0x01)) (fun t => t.mem == (trap 0xFF 0x02 0x01).mem && t.cpu.f == 0 &&
      t.tape.pos == 0 && t.cpu.pc == 0x8003) = true := by
  decide

/-- V1: screen addresses. -/
theorem test_screen_addresses_V1 :
    let c := Config.default
    bitmapAddr c 0 0 = 0x4000 ∧ bitmapAddr c 1 0 = 0x4100 ∧ bitmapAddr c 7 31 = 0x471F ∧ bitmapAddr c 8 0 = 0x4020 ∧
      bitmapAddr c 63 31 = 0x47FF ∧ bitmapAddr c 64 0 = 0x4800 ∧ bitmapAddr c 100 5 = 0x4C85 ∧
      bitmapAddr c 191 31 = 0x57FF ∧ attrAddr c 8 0 = 0x5820 ∧ attrAddr c 100 5 = 0x5985 ∧ attrAddr c 191 31 = 0x5AFF := by
  decide

/-- 60_exceptions.md R347: attribute 0x87 and bitmap byte 0xF0, before and after a flash toggle. -/
theorem test_cell_R347 :
    cellPixels 0xF0 0x87 false = [7, 7, 7, 7, 0, 0, 0, 0] ∧ cellPixels 0xF0 0x87 true = [0, 0, 0, 0, 7, 7, 7, 7] := by
  decide

/-- 60_exceptions.md R348: the palette. -/
theorem test_palette_R348 :
    colour Config.default 5 = ⟨0x00, 0xD7, 0xD7⟩ ∧ colour Config.default 10 = ⟨0xFF, 0x00, 0x00⟩ := by decide

/-- 20_memory.md R73: keys of the default map. -/
theorem test_keymap_R73 :
    keyAt Config.default 0 4 = some "V" ∧ keyAt Config.default 6 3 = some "J" ∧ keyAt Config.default 0 5 = none := by
  decide

/-- 60_exceptions.md R342: a breakpoint pauses without a step and tells the host. -/
theorem test_tick_breakpoint :
    let s0 := start id [0x00] []
    let s := { s0 with sched := { s0.sched with mode := .running, breakpoints := [0x8000] } }
    nextIs (tick s) (fun t => t.sched.mode == .paused && t.cpu == s.cpu && t.sched.line == 1) = true ∧
      tickNotices s = [.breakpointHit 0x8000] := by
  decide

/-- 20_memory.md R73: a key pressed and released. -/
theorem test_key_press :
    nextIs (hostAct (.setKey 1 3) (start id [] [])) (fun t => t.bus.kb[1] == 0xF7) = true := by
  decide

/-- 20_memory.md R63: the byte a straddling `LD (nn),HL` drops, and a dropped poke, are told of, in mode `disallow` alone. -/
theorem test_rom_notices_R63 :
    let ignore := start id [0x22, 0xFF, 0x3F] []
    let disallow := { ignore with cfg := { ignore.cfg with romProtect := .disallow } }
    stepNotices disallow = [.romWriteDropped 0x3FFF] ∧ stepNotices ignore = [] ∧
      hostNotices (.poke 0x3FFF 1) disallow = [.romWriteDropped 0x3FFF] ∧ hostNotices (.poke 0x4000 1) disallow = [] := by
  decide

/-- 60_exceptions.md R343, R344: paused in mid-line, single-stepped over a NOP and resumed, the line has a full budget of
224 from the T-states then. -/
theorem test_single_step_outside_budget_R343 :
    let s0 := start (fun c => { c with tstates := 100 }) [0x00] []
    let s := { s0 with sched := { s0.sched with mode := .running, target := some 224 } }
    nextIs (hostAct .pause s) (fun p => nextIs (hostAct .hostStep p) fun t => nextIs (hostAct .resume t) fun u =>
      u.cpu.tstates == 104 && u.lineTarget == 328 && u.sched.mode == .running) = true := by
  decide

/-- 20_memory.md R83: `loadRom` passes the ROM protection; a poke does not (R63). -/
theorem test_load_rom :
    nextIs (hostAct (.loadRom (some [0xF3, 0xAF])) (start id [] [])) (fun t =>
      t.memRead 0 == 0xF3 && t.memRead 1 == 0xAF) = true ∧
    nextIs (hostAct (.poke 0x1000 0x55) (start id [] [])) (fun t => t.memRead 0x1000 == 0) = true := by
  decide

/-- 70_reset_and_hazards.md R400: a reset of a paused machine keeps ROM, clears RAM, runs again. -/
theorem test_reset :
    let s0 := start (fun c => { c with a := 1, iff1 := true, iff2 := true }) [0x11] [(0x0005, 0x22)]
    let t := { s0 with sched := { s0.sched with mode := .paused, line := 7, breakpoints := [0x1234] } }.restart
    t.memRead 0x0005 = 0x22 ∧ t.memRead 0x8000 = 0 ∧ t.cpu.pc = 0 ∧ t.cpu.sp = 0xFFFF ∧ t.cpu.iff1 = false ∧
      t.sched.mode = .running ∧ t.sched.line = 0 ∧ t.sched.breakpoints = [0x1234] := by
  decide

/-- The host's use of `withFetchWord`: the very next step runs the word's instruction (`LD I,A` costs 9). -/
theorem test_with_fetch_word :
    nextIs (step (State.reset.withFetchWord 16 0xED47)) (fun t => t.cpu.tstates == 9 && t.cpu.pc == 2) = true := by
  decide

/-! ## The hypotheses of the obligations can be met -/

/-- A small state with the invariant: one line, no display, no side borders. -/
def tiny : State :=
  { start id [0x00] [] with
    cfg := { State.reset.cfg with
      linesPerFrame := 1, firstDisplayLine := 0, displayLines := 0, borderLeft := 0, borderRight := 0 }
    video := { frame := [List.replicate 256 0], flash := false, frameCount := 15 } }

/-- A state with `PC` at the trap address and a tape of two blocks, playing. -/
abbrev trapping : State := trap 0x00 0x02 0x01

theorem witness_DecodeOfEncodeIsTheInstruction : WellFormed (.rst 0x38) ∧ WellFormed (.jrCc .c 0x80) := by decide

theorem witness_DecodedBytesAreItsEncoding : decode [0xCB, 0x46, 0x01] = .ok (.bitHl 0, [0x01]) := by decide

theorem witness_UnrecognisedEncodingsAreTheListedOnesAndFault :
    let s := start id [0xED, 0x00] []
    s.cpu.fault = none ∧ s.cpu.halted = false ∧ s.trapArmed = false ∧ s.memRead s.cpu.pc = 0xED ∧
      s.memRead (s.cpu.pc + 1) = 0x00 := by
  decide

theorem witness_StepRunsTheDecodedInstruction :
    let s := start id [0x21, 0x34, 0x12] []
    s.cpu.fault = none ∧ s.cpu.halted = false ∧ ¬ (s.tape.playing = true ∧ s.cpu.pc = s.cfg.ldBytesEntry) ∧
      decode [s.memRead s.cpu.pc, s.memRead (s.cpu.pc + 1), s.memRead (s.cpu.pc + 2), s.memRead (s.cpu.pc + 3)] =
        .ok (.ldDdNn .hl 0x1234, [0x00]) := by
  decide

/-- A faulted state, and a reset that clears its latch. -/
theorem witness_LatchedFaultFreezesTheCpu :
    let s := start (fun c => { c with fault := some { addr := 0x8000, bytes := [0xED, 0x00] } }) [] []
    s.cpu.fault ≠ none ∧ act (.host .reset) s = .next s.restart ∧ s.restart.cpu.fault ≠ s.cpu.fault :=
  ⟨by decide, rfl, by decide⟩

theorem witness_HaltedStepIsATick :
    let s := start (fun c => { c with halted := true }) [] []
    s.cpu.fault = none ∧ s.cpu.halted = true ∧ ¬ (s.tape.playing = true ∧ s.cpu.pc = s.cfg.ldBytesEntry) := by
  decide

theorem witness_EveryActionKeepsTheInvariant : Inv tiny :=
  ⟨by decide, by decide, by decide, by decide, by decide,
    fun row h => by rw [List.mem_singleton.1 h]; exact List.length_replicate, by decide, by decide, by decide, by decide⟩

theorem witness_OnlyLoadRomChangesRom :
    let s := start id [] [(0x0005, 0x22)]
    s.mem.wf ∧ act (.host .reset) s = .next s.restart ∧
      (∀ buf, Action.host .reset ≠ .host (.loadRom (some buf))) ∧ s.mem.read 5 = 0x22 :=
  ⟨by decide, rfl, fun _ h => (nomatch h), by decide⟩

/-- An instruction that writes control state, and does complete. -/
theorem witness_ControlStateHasOnlyItsWriters :
    ∃ t, exec .ei (start id [] []) = .next t ∧ t.cpu.iff1 ≠ (start id [] []).cpu.iff1 := ⟨_, rfl, by decide⟩

theorem witness_ShadowSetReachedOnlyByExchanges : Instr.nop ≠ .exAfAf ∧ Instr.nop ≠ .exx := by decide

/-- Canonical memory, for the statements that ask for nothing else: MemoryAccess, Stores, IncrementAndDecrement,
BlockMoveIteration, Pushes, ExchangeStackTop, Calls, RotatesAndShifts, BitResetAndSet, InterruptEntry, HostLoads,
HostEdits. -/
theorem witness_canonical_memory : (start id [0x34, 0x12] [(0x9000, 0x11), (0x0001, 0x22)]).mem.wf := by decide

/-- Both clauses of a repeating move: `BC = 1` ends it, `BC = 0` does not. -/
theorem witness_BlockMoveIteration :
    (start (fun c => { c with c := 1 }) [] []).cpu.bc = 1 ∧ (start id [] []).cpu.bc ≠ 1 := by decide

theorem witness_DecimalAdjustCorrectsAnAddition :
    let s := start (fun c => { c with a := 0x99, f := 0x01 }) [] []
    s.cpu.a.toNat % 16 ≤ 9 ∧ s.cpu.a.toNat / 16 ≤ 9 ∧ (0x99#8).toNat % 16 ≤ 9 ∧ (0x99#8).toNat / 16 ≤ 9 := by
  decide

theorem witness_LdirCopiesADisjointBlock :
    let s := start (fun c => { c with h := 0x90, d := 0xFF, e := 0xFD, c := 3 }) [0xED, 0xB0] [(0x9000, 0x11)]
    s.mem.wf ∧ s.cpu.fault = none ∧ s.cpu.halted = false ∧ s.tape.playing = false ∧
      s.memRead s.cpu.pc = 0xED ∧ s.memRead (s.cpu.pc + 1) = 0xB0 ∧ 3 = s.cpu.bc.toNat ∧
      s.cpu.hl.toNat + 3 ≤ 65536 ∧ 16384 ≤ s.cpu.de.toNat ∧ s.cpu.de.toNat + 3 ≤ 65536 ∧
      s.cpu.hl.toNat + 3 ≤ s.cpu.de.toNat ∧ s.cpu.pc.toNat < s.cpu.de.toNat ∧
      (s.cpu.pc + 1).toNat < s.cpu.de.toNat := by
  decide

/-- The lowest and the highest stack that has both bytes in RAM. -/
theorem witness_StackRoundTrips :
    (start id [] []).mem.wf ∧ 16384 ≤ (0x4002#16 - 1).toNat ∧ 16384 ≤ (0x4002#16 - 2).toNat ∧
      16384 ≤ (0x0000#16 - 1).toNat ∧ 16384 ≤ (0x0000#16 - 2).toNat := by
  decide

theorem witness_RegisterExchanges : Instr.exx ∈ [Instr.exDeHl, Instr.exAfAf, Instr.exx] := by decide

/-- Both parities of a port, and a selected row. -/
theorem witness_PortInstructions :
    (0xFF#8).toNat % 2 = 1 ∧ (0xFE#8).toNat % 2 = 0 ∧ (0xFE#8).getLsbD 0 = false := by decide

/-- Both refresh policies. -/
theorem witness_InterruptVectorAndRefreshLoads :
    (start id [] []).cfg.rPolicy = .m1 ∧ { Config.default with rPolicy := .any }.rPolicy ≠ .m1 := by decide

/-- An effective request and an ineffective one. -/
theorem witness_InterruptEntry :
    let s := start (fun c => { c with iff1 := true, sp := 0xC000 }) [] []
    s.mem.wf ∧ s.cpu.fault = none ∧ s.cpu.iff1 = true ∧ (start id [] []).cpu.iff1 = false := by
  decide

theorem witness_ReturnFromInterruptResumes :
    let s := start (fun c => { c with iff1 := true, sp := 0x4002 }) [] []
    s.mem.wf ∧ s.cpu.fault = none ∧ s.cpu.iff1 = true ∧ 16384 ≤ (s.cpu.sp - 1).toNat ∧ 16384 ≤ (s.cpu.sp - 2).toNat := by
  decide

/-- Blocks, one of them empty, and both kinds of tail. -/
theorem witness_TapeContainerParses :
    (∀ b ∈ ([[0x00, 0xAA], []] : List (List Byte)), b.length < 65536) ∧ ([0x05] : List Byte).length < 2 ∧
      ([0xBB] : List Byte).length < (0x02#8).toNat + 256 * (0x00#8).toNat := by
  decide

/-- The trap with a match, and with a mismatch. -/
theorem witness_FastLoadTrap :
    trapping.mem.wf ∧ trapping.cpu.fault = none ∧ trapping.tape.playing = true ∧
      trapping.cpu.pc = trapping.cfg.ldBytesEntry ∧
      trapping.tape.blocks[trapping.tape.pos]? = some (trapping.cpu.a :: [0xAA, 0xBB]) ∧ flagC trapping.cpu.f = true ∧
      (trap 0xFF 0x02 0x01).tape.blocks[0]? = some (0x00 :: [0xAA, 0xBB]) ∧ (0x00#8) ≠ (trap 0xFF 0x02 0x01).cpu.a := by
  decide

/-- The five cases of the frame loop's next action: the budget used up exactly, and one T-state short of it. -/
theorem witness_FrameLoopOrder :
    let s := start (fun c => { c with tstates := 223 }) [] []
    let run (target : Nat) (bps : List Word) : State :=
      { s with sched := { mode := .running, breakpoints := bps, line := 0, target := some target } }
    s.sched.mode = .stopped ∧ { s.sched with mode := .paused }.mode = .paused ∧
      (run 223 []).sched.target = some 223 ∧ ¬ (223 < (run 223 []).cpu.tstates) ∧ (run 224 []).cpu.tstates < 224 ∧
      (run 224 [0x8000]).cpu.pc ∈ (run 224 [0x8000]).sched.breakpoints ∧
      (run 224 [0x8001]).cpu.pc ∉ (run 224 [0x8001]).sched.breakpoints ∧ (run 224 []).cpu.fault = none := by
  decide

/-- The last line of a frame, and the line before it; autotype idle, and armed with its last frame and with two to go. -/
theorem witness_LineAndFrameEnds :
    let s := start id [] []
    let armed (n : Nat) : Tape := { s.tape with autotype := .armed n }
    310 + 1 < s.cfg.linesPerFrame ∧ s.cfg.linesPerFrame ≤ 311 + 1 ∧ s.tape.autotype = .idle ∧
      tiny.cfg.linesPerFrame ≤ tiny.sched.line + 1 ∧ (armed 1).autotype = .armed 1 ∧ (armed 2).autotype = .armed 2 := by
  decide

/-- The last frame of an autotype script that releases a key and presses it: the later event holds, and the tape plays. -/
theorem test_autotype_R357 :
    let ev (press : Bool) : KeyEvent := { frame := 2, row := 6, bit := 3, press := press }
    let s := { tiny with
      tape := { tiny.tape with autotype := .armed 1 }
      cfg := { tiny.cfg with autotypeFrames := 2, autotypeScript := [ev false, ev true] } }
    s.endLine.bus.kb[6] = 0xF7 ∧ s.endLine.tape.playing = true ∧ s.endLine.tape.autotype = .idle := by
  decide

/-- A paused machine, and its next action. -/
theorem witness_PausedMachine :
    let s := { tiny with sched := { tiny.sched with mode := .paused } }
    s.sched.mode ≠ .running ∧ tick s = .next s.endLine ∧ s.sched.mode = .paused := ⟨by decide, rfl, rfl⟩

/-- Every request finds a state it acts in, and a running, unfaulted one for the budget after single-steps. -/
theorem witness_SchedulerRequests :
    let s := { tiny with sched := { tiny.sched with mode := .running, target := some 224 } }
    tiny.sched.mode = .stopped ∧ s.sched.mode = .running ∧ s.cpu.fault = none ∧
      ∃ t, hostAct .hostStep { s with sched := s.sched.pause } = .next t ∧ t.cpu.fault = none :=
  ⟨by decide, by decide, by decide, _, rfl, by decide⟩

/-- A border line, the first and the last display line, and the corners of a display row. -/
theorem witness_RenderedScanline :
    let c := State.reset.cfg
    63 < c.firstDisplayLine ∧ c.firstDisplayLine + c.displayLines ≤ 256 ∧ 64 = c.firstDisplayLine + 0 ∧
      0 < c.displayLines ∧ 255 = c.firstDisplayLine + 191 ∧ 191 < c.displayLines ∧ 255 < c.frameHeight ∧
      47 < c.borderLeft ∧ 47 < c.borderRight := by
  decide

theorem witness_ScreenAddresses :
    Config.default.bitmapBase = 0x4000 ∧ Config.default.attrBase = 0x5800 ∧ 191 < 192 ∧ 31 < 32 := by decide

/-- A store in ROM, a tape copy, the end of a running frame, and a paused machine. -/
theorem witness_DroppedWritesAreReported :
    let s := start id [0x22, 0xFF, 0x3F] []
    let ending := { tiny with sched := { tiny.sched with mode := .running, target := some 0 } }
    s.trapArmed = false ∧ s.cpu.fault = none ∧ s.cpu.halted = false ∧ s.decodeNext = .ok (.ldNnHl 0x3FFF) ∧
      trapping.trapArmed = true ∧ flagC trapping.cpu.f = true ∧ flagC (trap 0x00 0x02 0x00).cpu.f = false ∧
      trapping.tape.blocks[trapping.tape.pos]? = some (trapping.cpu.a :: [0xAA, 0xBB]) ∧
      (trap 0x00 0x02 0x00).trapArmed = true ∧ ending.sched.mode = .running ∧ ending.cpu.fault = none ∧
      ending.lineTarget ≤ ending.cpu.tstates ∧ ending.cfg.linesPerFrame ≤ ending.sched.line + 1 ∧
      { s.sched with mode := .paused }.mode = .paused := by
  decide

theorem witness_ResetSequence : (start id [] []).cfg.ramResetMode = .zero := by decide

end Sys2Proof.Tests
end

section
/-! SUPPORT. Instructions and the state of the other agents (00_scope.md R10, 10_state.md R39 to R42): running an
instruction commutes with replacing the video, the tape, the scheduler and the fault latch; it answers a next state, with
the parameters as before, and the ports too unless it is `OUT (n),A`. -/

namespace Sys2Proof.Machine

open Sys2Proof.Claim

/-! ## Replacing the other agents' state -/

/-- Mapping over the outcome of a conditional maps over each branch. -/
theorem mapNext_ite (g : State → State) (c : Prop) [Decidable c] (a b : Result) :
    mapNext g (if c then a else b) = if c then mapNext g a else mapNext g b :=
  apply_ite (mapNext g) c a b

@[simp] theorem withOutsideOf_self (s : State) : withOutsideOf s s = s := rfl

/-- Reading `R` neither sees nor changes the other agents' state. -/
theorem State.readR_withOutsideOf (u s : State) :
    (withOutsideOf u s).readR = (s.readR.1, withOutsideOf u s.readR.2) := by
  have hcfg : (withOutsideOf u s).cfg = s.cfg := rfl
  unfold State.readR
  rw [hcfg]
  cases s.cfg.rPolicy <;> rfl

/-- No instruction reads or writes the other agents' state. An instruction on a named register or pair is split by its
operand; one with two outcomes tests a condition on the CPU, which the replacement leaves alone. -/
theorem exec_withOutsideOf (i : Instr) (u s : State) :
    exec i (withOutsideOf u s) = mapNext (withOutsideOf u) (exec i s) := by
  cases i with
  | ldRR r _ | ldRN r _ | ldRHl r | incR r | decR r | rlcR r | rrcR r | rlR r | rrR r | slaR r | sraR r | srlR r
  | resR _ r | setR _ r => cases r <;> rfl
  | ldDdNn p _ | incSs p | decSs p | popQq p => cases p <;> rfl
  | jrCc _ _ | djnz _ | jpCcNn _ _ | callCcNn _ _ | retCc _ | ldir | lddr =>
    simp only [exec, execJrCc, execDjnz, execJpCcNn, execCallCcNn, execRetCc, execLdir, execLddr, mapNext_ite]
    rfl
  | ldAR => simp only [exec, execLdAR, State.readR_withOutsideOf]; rfl
  | _ => rfl

/-! ## Completion and the ports -/

@[simp] theorem State.readR_bus (s : State) : s.readR.2.bus = s.bus := by
  unfold State.readR
  cases s.cfg.rPolicy <;> rfl

@[simp] theorem State.readR_cfg (s : State) : s.readR.2.cfg = s.cfg := by
  unfold State.readR
  cases s.cfg.rPolicy <;> rfl

/-- Every instruction but `OUT (n),A` answers a next state with the ports and the parameters as before. -/
theorem exec_next_bus_cfg (i : Instr) (s : State) (hi : ∀ n, i ≠ .outNA n) :
    ∃ t, exec i s = .next t ∧ t.bus = s.bus ∧ t.cfg = s.cfg := by
  cases i with
  | jrCc _ _ | djnz _ | jpCcNn _ _ | callCcNn _ _ | retCc _ | ldir | lddr =>
    simp only [exec, execJrCc, execDjnz, execJpCcNn, execCallCcNn, execRetCc, execLdir, execLddr]
    -- Proof terms that name the frame laws: the kernel is slow to see by computation that `LDDR` keeps its frame.
    split <;> exact ⟨_, rfl, by simp -implicitDefEqProofs⟩
  | outNA n => exact absurd rfl (hi n)
  | _ =>
    refine ⟨_, rfl, ?_⟩
    simp [State.aluAdd, State.aluAdc, State.aluSub, State.aluSbc, State.aluAnd, State.aluXor, State.aluOr, State.aluCp]

/-- `OUT (n),A` answers a next state with the keyboard and the parameters as before (47_io_system.md R291). -/
theorem exec_outNA_next_kb_cfg (n : Byte) (s : State) :
    ∃ t, exec (.outNA n) s = .next t ∧ t.bus.kb = s.bus.kb ∧ t.cfg = s.cfg :=
  ⟨_, rfl, by simp [Bus.portOut_eq], rfl⟩

/-- Every instruction answers a next state with the keyboard and the parameters as before, and BORDER too unless it is
`OUT (n),A`. -/
theorem exec_next_kb_cfg (i : Instr) (s : State) :
    ∃ t, exec i s = .next t ∧ t.bus.kb = s.bus.kb ∧ t.cfg = s.cfg ∧ ((∀ n, i ≠ .outNA n) → t.bus = s.bus) := by
  by_cases hi : ∀ n, i ≠ .outNA n
  · obtain ⟨t, ht, hbus, hcfg⟩ := exec_next_bus_cfg i s hi
    exact ⟨t, ht, congrArg Bus.kb hbus, hcfg, fun _ => hbus⟩
  · obtain ⟨n, rfl⟩ : ∃ n, i = .outNA n := by simpa using hi
    obtain ⟨t, ht, hkb, hcfg⟩ := exec_outNA_next_kb_cfg n s
    exact ⟨t, ht, hkb, hcfg, fun h => absurd h hi⟩

/-- Replacing the other agents' state by what it is already changes nothing, so commuting with the replacement says
that an instruction leaves it. -/
theorem exec_keeps_outside (i : Instr) (s t : State) (ht : exec i s = .next t) :
    t.cpu.fault = s.cpu.fault ∧ t.video = s.video ∧ t.tape = s.tape ∧ t.sched = s.sched := by
  have hcomm := exec_withOutsideOf i s s
  rw [withOutsideOf_self, ht] at hcomm
  have hsame : t = withOutsideOf s t := Host.Outcome.next.inj hcomm
  rw [hsame]
  exact ⟨rfl, rfl, rfl, rfl⟩

/-- Settles O12: completion, the ports and the parameters by the instruction's case; the other agents' state is kept
because the instruction commutes with replacing it. -/
theorem instructionsKeepToTheirOwnState : Obligations.InstructionsKeepToTheirOwnState := by
  intro i s u
  obtain ⟨t, ht, hkb, hcfg, hbus⟩ := exec_next_kb_cfg i s
  obtain ⟨hfault, hvideo, htape, hsched⟩ := exec_keeps_outside i s t ht
  refine ⟨t, ht, ⟨hfault, hkb, hvideo, htape, hsched, hcfg, hbus⟩, ?_⟩
  rw [exec_withOutsideOf, ht]
  rfl

end Sys2Proof.Machine
end

section
/-! SUPPORT. What an instruction does to memory and to the control state (10_state.md R25, R26): memory changes by
`MemWrite` alone, so a property of memory that `MemWrite` keeps is kept; nine instructions write control state. -/

namespace Sys2Proof.Machine

@[simp] theorem State.readR_cpu (s : State) : s.readR.2.cpu = s.cpu := by
  unfold State.readR
  cases s.cfg.rPolicy <;> rfl

@[simp] theorem State.readR_mem (s : State) : s.readR.2.mem = s.mem := by
  unfold State.readR
  cases s.cfg.rPolicy <;> rfl

/-- A property of memory that every `MemWrite` keeps is kept by every instruction. -/
theorem exec_next_mem (P : Memory → Prop) (hP : ∀ m x v, P m → P (m.write x v)) (i : Instr) (s : State)
    (hs : P s.mem) : ∃ t, exec i s = .next t ∧ P t.mem := by
  cases i with
  | jrCc _ _ | djnz _ | jpCcNn _ _ | callCcNn _ _ | retCc _ | ldir | lddr =>
    simp only [exec, execJrCc, execDjnz, execJpCcNn, execCallCcNn, execRetCc, execLdir, execLddr]
    split <;> exact ⟨_, rfl, by simp -implicitDefEqProofs [hs, hP]⟩
  | _ =>
    refine ⟨_, rfl, ?_⟩
    simp [hs, hP, State.aluAdd, State.aluAdc, State.aluSub, State.aluSbc, State.aluAnd, State.aluXor, State.aluOr,
      State.aluCp]

/-- The instructions that write IFF1, IFF2, IM, HALTED, I or R (10_state.md R25, R26). -/
def Instr.writesControl : Instr → Bool
  | .ei | .di | .retn | .im0 | .im1 | .im2 | .halt | .ldIA | .ldRA => true
  | _ => false

/-- Two CPUs with the same interrupt control state, `I` and `R`. -/
def Cpu.sameControl (c d : Cpu) : Prop :=
  c.iff1 = d.iff1 ∧ c.iff2 = d.iff2 ∧ c.im = d.im ∧ c.halted = d.halted ∧ c.i = d.i ∧ c.r = d.r

/-- Every other instruction answers a next state with the control state as before. -/
theorem exec_next_sameControl (i : Instr) (s : State) (hi : Instr.writesControl i = false) :
    ∃ t, exec i s = .next t ∧ t.cpu.sameControl s.cpu := by
  cases i with
  | jrCc _ _ | djnz _ | jpCcNn _ _ | callCcNn _ _ | retCc _ | ldir | lddr =>
    simp only [exec, execJrCc, execDjnz, execJpCcNn, execCallCcNn, execRetCc, execLdir, execLddr]
    split <;> exact ⟨_, rfl, by simp -implicitDefEqProofs [Cpu.sameControl]⟩
  | ei | di | retn | im0 | im1 | im2 | halt | ldIA | ldRA => cases hi
  | _ =>
    refine ⟨_, rfl, ?_⟩
    simp [Cpu.sameControl, State.aluAdd, State.aluAdc, State.aluSub, State.aluSbc, State.aluAnd, State.aluXor,
      State.aluOr, State.aluCp]

theorem exec_sameControl (i : Instr) (s t : State) (ht : exec i s = .next t) (hi : Instr.writesControl i = false) :
    t.cpu.sameControl s.cpu := by
  obtain ⟨t', ht', hsame⟩ := exec_next_sameControl i s hi
  rwa [Host.Outcome.next.inj (ht.symm.trans ht')]

/-- Settles O13: an instruction that is none of the nine keeps all six fields, and each of the nine writes its own. -/
theorem controlStateHasOnlyItsWriters : Obligations.ControlStateHasOnlyItsWriters := by
  intro i s t ht
  cases hi : Instr.writesControl i with
  | false =>
    obtain ⟨hiff1, hiff2, him, hhalted, hI, hR⟩ := exec_sameControl i s t ht hi
    exact ⟨absurd hiff1, absurd hiff2, absurd him, absurd hhalted, absurd hI, absurd hR⟩
  | true =>
    cases i with
    | ei | di | retn | im0 | im1 | im2 | halt | ldIA | ldRA =>
      obtain rfl := Host.Outcome.next.inj ht
      simp
    | _ => cases hi

/-- IFF1 = IFF2 after an instruction if before it (45_stack_calls.md R246): EI and DI write both, RETN copies IFF2. -/
theorem exec_keeps_iff_equal (i : Instr) (s t : State) (ht : exec i s = .next t) (hs : s.cpu.iff1 = s.cpu.iff2) :
    t.cpu.iff1 = t.cpu.iff2 := by
  cases hi : Instr.writesControl i with
  | false =>
    obtain ⟨hiff1, hiff2, -⟩ := exec_sameControl i s t ht hi
    rw [hiff1, hiff2, hs]
  | true =>
    cases i with
    | ei | di | retn | im0 | im1 | im2 | halt | ldIA | ldRA =>
      obtain rfl := Host.Outcome.next.inj ht
      simp [hs]
    | _ => cases hi

end Sys2Proof.Machine
end

section
/-! SUPPORT. What the machine's other operations leave: the bytes of a decoding error, the frame interrupt, the tape trap,
the end of a line and of a frame, the breakpoint set. -/

namespace Sys2Proof.Machine

/-! ## Decoding errors (10_state.md R36) -/

theorem Form.finish_error_key (form : Form) (key bytes : List Byte) (e : DecodeError)
    (h : form.finish key bytes = .error e) : e.key = key := by
  unfold Form.finish at h
  split at h <;> cases h
  rfl

/-- Two bytes or more that are no instruction are refused for their first byte, or for the first two. -/
theorem decode_error_key_length (b0 b1 : Byte) (rest : List Byte) (e : DecodeError)
    (h : decode (b0 :: b1 :: rest) = .error e) : e.key.length = 1 ∨ e.key.length = 2 := by
  unfold decode at h
  simp only at h
  split at h
  · left
    split at h
    · cases h; rfl
    · rw [Form.finish_error_key _ _ _ _ h]; rfl
  · right
    split at h
    · cases h; rfl
    · rw [Form.finish_error_key _ _ _ _ h]; rfl

theorem State.decodeNext_error_key_length (s : State) (e : DecodeError) (h : s.decodeNext = .error e) :
    e.key.length = 1 ∨ e.key.length = 2 := by
  unfold State.decodeNext at h
  split at h
  · cases h
  · next e' hdecode =>
    obtain rfl := Except.error.inj h
    exact decode_error_key_length _ _ _ e' hdecode

/-! ## The frame interrupt and the tape trap -/

@[simp] theorem State.interrupt_fault (s : State) : s.interrupt.cpu.fault = s.cpu.fault := by
  unfold State.interrupt
  split <;> simp

theorem State.interrupt_iff_equal (s : State) (h : s.cpu.iff1 = s.cpu.iff2) :
    s.interrupt.cpu.iff1 = s.interrupt.cpu.iff2 := by
  unfold State.interrupt
  split
  · exact h
  · rfl

theorem State.wf_interrupt (s : State) (h : s.mem.wf) : s.interrupt.mem.wf := by
  unfold State.interrupt
  split
  · exact h
  · exact Memory.wf_write _ (Memory.wf_write _ h _ _) _ _

/-- A block that matches is a block of the tape (60_exceptions.md R354). -/
theorem State.tapeMatch_pos_lt (s : State) (data : List Byte) (h : s.tapeMatch = some data) :
    s.tape.pos < s.tape.blocks.length := by
  unfold State.tapeMatch at h
  split at h
  · next hblock => exact (List.getElem?_eq_some_iff.1 hblock).1
  · cases h

/-! ## The end of a frame and of a line (60_exceptions.md R340) -/

/-- Autotype changes the keyboard, `TAPE_PLAYING` and its own progress, and nothing else (60_exceptions.md R357). -/
theorem State.autotypeStep_frame (s : State) :
    s.autotypeStep.cpu = s.cpu ∧ s.autotypeStep.mem = s.mem ∧ s.autotypeStep.video = s.video ∧
      s.autotypeStep.sched = s.sched ∧ s.autotypeStep.cfg = s.cfg ∧
      s.autotypeStep.tape.blocks = s.tape.blocks ∧ s.autotypeStep.tape.pos = s.tape.pos := by
  unfold State.autotypeStep
  split
  · simp
  · split <;> simp

theorem State.endFrame_frame (s : State) :
    s.endFrame.sched = { s.sched with line := 0, target := none } ∧ s.endFrame.cfg = s.cfg ∧
      s.endFrame.video.frame = s.video.frame ∧ s.endFrame.tape.blocks = s.tape.blocks ∧
      s.endFrame.tape.pos = s.tape.pos := by
  unfold State.endFrame
  split <;> simp [State.autotypeStep_frame, State.interrupt_frame]

/-- The CPU and memory at the end of a frame: as before, or after the interrupt. -/
theorem State.endFrame_cpu_mem (s : State) :
    (s.endFrame.cpu = s.cpu ∧ s.endFrame.mem = s.mem) ∨
      (s.endFrame.cpu = s.interrupt.cpu ∧ s.endFrame.mem = s.interrupt.mem) := by
  unfold State.endFrame
  split <;> simp [State.autotypeStep_frame]

@[simp] theorem State.endFrame_fault (s : State) : s.endFrame.cpu.fault = s.cpu.fault := by
  rcases s.endFrame_cpu_mem with ⟨hcpu, -⟩ | ⟨hcpu, -⟩ <;> simp [hcpu]

@[simp] theorem State.endLine_fault (s : State) : s.endLine.cpu.fault = s.cpu.fault := by
  unfold State.endLine
  split <;> simp

/-! ## Breakpoints (60_exceptions.md R342) -/

theorem mem_insertBreakpoint (bs : List Word) (a x : Word) (hx : x ∈ insertBreakpoint bs a) : x = a ∨ x ∈ bs := by
  induction bs with
  | nil => simpa [insertBreakpoint] using hx
  | cons b bs ih =>
    unfold insertBreakpoint at hx
    split at hx
    · simpa using hx
    · split at hx
      · exact .inr hx
      · rcases List.mem_cons.1 hx with rfl | hx
        · exact .inr List.mem_cons_self
        · exact (ih hx).imp_right (List.mem_cons_of_mem b)

theorem insertBreakpoint_rising (bs : List Word) (a : Word) (hbs : bs.Pairwise fun a b => a.toNat < b.toNat) :
    (insertBreakpoint bs a).Pairwise fun a b => a.toNat < b.toNat := by
  induction bs with
  | nil => simp [insertBreakpoint]
  | cons b bs ih =>
    obtain ⟨hfirst, hrest⟩ := List.pairwise_cons.1 hbs
    unfold insertBreakpoint
    split
    · next hlt =>
      refine List.pairwise_cons.2 ⟨fun x hx => ?_, hbs⟩
      rcases List.mem_cons.1 hx with rfl | hx
      · exact hlt
      · exact lt_trans hlt (hfirst x hx)
    · next hge =>
      split
      · exact hbs
      · next hne =>
        refine List.pairwise_cons.2 ⟨fun x hx => ?_, ih hrest⟩
        rcases mem_insertBreakpoint bs a x hx with rfl | hx
        · exact lt_of_le_of_ne (not_lt.1 hge) fun h => hne (BitVec.eq_of_toNat_eq h).symm
        · exact hfirst x hx

theorem removeBreakpoint_rising (bs : List Word) (a : Word) (hbs : bs.Pairwise fun a b => a.toNat < b.toNat) :
    (removeBreakpoint bs a).Pairwise fun a b => a.toNat < b.toNat :=
  hbs.sublist List.filter_sublist

theorem toggleBreakpoint_rising (bs : List Word) (a : Word) (hbs : bs.Pairwise fun a b => a.toNat < b.toNat) :
    (toggleBreakpoint bs a).Pairwise fun a b => a.toNat < b.toNat := by
  unfold toggleBreakpoint
  split
  · exact removeBreakpoint_rising bs a hbs
  · exact insertBreakpoint_rising bs a hbs

end Sys2Proof.Machine
end

section
/-! SUPPORT. The invariant is kept: first by a change of one part of the state, then by each operation, then by each
action. -/

namespace Sys2Proof.Machine

/-! ## Changing one part of the state -/

/-- The invariant passes to a state with the same scheduler, parameters, pixels and fault latch, if its memory, tape
position and IFF1, IFF2 are as they should be. -/
theorem Inv.of_same_sched {s t : State} (hs : Inv s) (hmem : t.mem.wf) (hfault : t.cpu.fault = s.cpu.fault)
    (hiff : t.cpu.iff1 = t.cpu.iff2) (hframe : t.video.frame = s.video.frame)
    (hpos : t.tape.pos ≤ t.tape.blocks.length) (hsched : t.sched = s.sched) (hcfg : t.cfg = s.cfg) : Inv t where
  mem_wf := hmem
  tape_pos := hpos
  fault_bytes := hfault ▸ hs.fault_bytes
  breakpoints_rising := hsched ▸ hs.breakpoints_rising
  frame_height := by rw [hframe, hcfg, hs.frame_height]
  frame_width := by rw [hframe, hcfg]; exact hs.frame_width
  line_lt := by rw [hsched, hcfg]; exact hs.line_lt
  target_held := by rw [hsched, hfault]; exact hs.target_held
  iff_equal := hiff
  cfg_valid := hcfg ▸ hs.cfg_valid

theorem Inv.with_cpu {s : State} (hs : Inv s) (c : Cpu) (hfault : c.fault = s.cpu.fault) (hiff : c.iff1 = c.iff2) :
    Inv { s with cpu := c } :=
  hs.of_same_sched hs.mem_wf hfault hiff rfl hs.tape_pos rfl rfl

theorem Inv.with_mem {s : State} (hs : Inv s) (m : Memory) (hm : m.wf) : Inv { s with mem := m } :=
  { hs with mem_wf := hm }

theorem Inv.with_bus {s : State} (hs : Inv s) (b : Bus) : Inv { s with bus := b } :=
  { hs with }

theorem Inv.with_tape {s : State} (hs : Inv s) (tape : Tape) (hpos : tape.pos ≤ tape.blocks.length) :
    Inv { s with tape := tape } :=
  { hs with tape_pos := hpos }

theorem Inv.with_sched {s : State} (hs : Inv s) (c : Scheduler)
    (hrising : c.breakpoints.Pairwise fun a b => a.toNat < b.toNat) (hline : c.line < s.cfg.linesPerFrame)
    (htarget : c.target ≠ none → c.mode = .running ∨ (c.mode = .paused ∧ s.cpu.fault ≠ none)) :
    Inv { s with sched := c } :=
  { hs with breakpoints_rising := hrising, line_lt := hline, target_held := htarget }

theorem Inv.with_breakpoints {s : State} (hs : Inv s) (bs : List Word)
    (hrising : bs.Pairwise fun a b => a.toNat < b.toNat) :
    Inv { s with sched := { s.sched with breakpoints := bs } } :=
  hs.with_sched _ hrising hs.line_lt hs.target_held

/-- In any mode, when no line's budget is held. -/
theorem Inv.with_mode_no_target {s : State} (hs : Inv s) (mode : SchedMode) :
    Inv { s with sched := { s.sched with mode := mode, target := none } } :=
  hs.with_sched _ hs.breakpoints_rising hs.line_lt fun h => absurd rfl h

/-! ## MachineStep -/

theorem Inv.charge {s : State} (hs : Inv s) (n : Nat) : Inv (s.charge n) :=
  hs.with_cpu _ rfl hs.iff_equal

theorem Inv.haltedTick {s : State} (hs : Inv s) : Inv s.haltedTick :=
  hs.with_cpu _ rfl hs.iff_equal

theorem Inv.fetched {s : State} (hs : Inv s) (i : Instr) : Inv (s.fetched i) := by
  rw [State.fetched_eq]
  exact hs.with_cpu _ rfl hs.iff_equal

/-- A latched fault pauses a running machine, whose line's budget stays held (60_exceptions.md R321). -/
theorem Inv.raiseUnrecognised {s : State} (hs : Inv s) (key : List Byte) (hkey : key.length = 1 ∨ key.length = 2) :
    Inv (s.raiseUnrecognised key) :=
  { hs with
    fault_bytes := fun u hu => by
      obtain rfl := Option.some.inj hu
      exact hkey
    target_held := fun htarget => .inr (by
      rcases hs.target_held htarget with hmode | ⟨hmode, -⟩ <;> simp [hmode]) }

theorem Inv.performFastLoad {s : State} (hs : Inv s) : Inv s.performFastLoad := by
  cases h : s.tapeMatch with
  | none =>
    rw [State.performFastLoad_mismatch s h]
    exact hs.with_cpu _ rfl hs.iff_equal
  | some data =>
    rw [State.performFastLoad_match s data h]
    have hmem : (if flagC s.cpu.f then s.mem.writeBytes s.cpu.ix (data.take s.cpu.de.toNat) else s.mem).wf := by
      split
      · exact Memory.wf_writeBytes _ _ hs.mem_wf _
      · exact hs.mem_wf
    exact hs.of_same_sched hmem rfl hs.iff_equal rfl (s.tapeMatch_pos_lt data h) rfl rfl

theorem Inv.exec_safe {s : State} (hs : Inv s) (i : Instr) : Result.safe (exec i s) := by
  obtain ⟨t, ht, hmem⟩ := exec_next_mem Memory.wf (fun m x v hm => Memory.wf_write m hm x v) i s hs.mem_wf
  obtain ⟨hfault, hvideo, htape, hsched⟩ := exec_keeps_outside i s t ht
  have hcfg : t.cfg = s.cfg := by
    obtain ⟨t', ht', -, hcfg, -⟩ := exec_next_kb_cfg i s
    rwa [Host.Outcome.next.inj (ht.symm.trans ht')]
  have hiff := exec_keeps_iff_equal i s t ht hs.iff_equal
  exact ⟨t, ht, hs.of_same_sched hmem hfault hiff (by rw [hvideo]) (htape ▸ hs.tape_pos) hsched hcfg⟩

theorem Inv.machineStep_safe {s : State} (hs : Inv s) : Result.safe (machineStep s) := by
  rcases machineStep_cases s with ⟨-, hstep⟩ | ⟨-, -, hstep⟩ | ⟨-, -, -, hstep⟩ | ⟨-, -, -, i, -, hstep⟩ |
    ⟨-, -, -, e, he, hstep⟩ <;> rw [hstep]
  · exact ⟨_, rfl, hs.performFastLoad.charge _⟩
  · exact ⟨_, rfl, hs⟩
  · exact ⟨_, rfl, hs.haltedTick⟩
  · exact (hs.fetched i).exec_safe i
  · exact ⟨_, rfl, hs.raiseUnrecognised _ (s.decodeNext_error_key_length e he)⟩

/-! ## The frame loop

The end of a line clears the line's budget, so the invariant is asked of the state without it: a breakpoint hit pauses
while the budget is still held. -/

theorem Inv.endFrame {s : State} (hs : Inv { s with sched := { s.sched with target := none } }) : Inv s.endFrame := by
  obtain ⟨hsched, hcfg, hframe, hblocks, hpos⟩ := s.endFrame_frame
  constructor
  case mem_wf =>
    rcases s.endFrame_cpu_mem with ⟨-, hmem⟩ | ⟨-, hmem⟩ <;> rw [hmem]
    · exact hs.mem_wf
    · exact s.wf_interrupt hs.mem_wf
  case iff_equal =>
    rcases s.endFrame_cpu_mem with ⟨hcpu, -⟩ | ⟨hcpu, -⟩ <;> rw [hcpu]
    · exact hs.iff_equal
    · exact s.interrupt_iff_equal hs.iff_equal
  case fault_bytes => rw [s.endFrame_fault]; exact hs.fault_bytes
  case tape_pos => rw [hpos, hblocks]; exact hs.tape_pos
  case breakpoints_rising => rw [hsched]; exact hs.breakpoints_rising
  case frame_height => rw [hframe, hcfg]; exact hs.frame_height
  case frame_width => rw [hframe, hcfg]; exact hs.frame_width
  case line_lt => rw [hsched, hcfg]; exact Nat.zero_lt_of_lt hs.line_lt
  case target_held => rw [hsched]; exact fun h => absurd rfl h
  case cfg_valid => rw [hcfg]; exact hs.cfg_valid

theorem Inv.renderScanline {s : State} (hs : Inv s) (line : Nat) : Inv (s.renderScanline line) :=
  { hs with
    frame_height := by simp [hs.frame_height]
    frame_width := fun row hrow => by
      rcases List.mem_or_eq_of_mem_set hrow with hrow | rfl
      · exact hs.frame_width row hrow
      · exact s.scanline_length line }

theorem Inv.endLine {s : State} (hs : Inv { s with sched := { s.sched with target := none } }) : Inv s.endLine := by
  have hrendered := hs.renderScanline s.sched.line
  unfold State.endLine
  split
  · next hnext => exact hrendered.with_sched _ hs.breakpoints_rising hnext fun h => absurd rfl h
  · exact Inv.endFrame hrendered

theorem Inv.tick_safe {s : State} (hs : Inv s) : Result.safe (tick s) := by
  rcases tick_cases s with ⟨-, htick⟩ | ⟨-, -, htick⟩ | ⟨-, -, -, -, htick⟩ | ⟨hmode, -, -, -, htick⟩ <;> rw [htick]
  · exact ⟨_, rfl, hs⟩
  · exact ⟨_, rfl, Inv.endLine (hs.with_mode_no_target s.sched.mode)⟩
  · exact ⟨_, rfl, Inv.endLine (hs.with_mode_no_target .paused)⟩
  · have hheld : Inv { s with sched := { s.sched with target := some s.lineTarget } } :=
      hs.with_sched _ hs.breakpoints_rising hs.line_lt fun _ => .inl hmode
    exact hheld.machineStep_safe

/-! ## Host requests (60_exceptions.md R341, R360) -/

theorem Inv.start {s : State} (hs : Inv s) : Inv { s with sched := s.sched.start } := by
  unfold Scheduler.start
  split
  · exact hs.with_sched _ hs.breakpoints_rising (Nat.zero_lt_of_lt hs.line_lt) fun h => absurd rfl h
  · exact hs

theorem Inv.pause {s : State} (hs : Inv s) : Inv { s with sched := s.sched.pause } := by
  unfold Scheduler.pause
  split
  · exact hs.with_mode_no_target .paused
  · exact hs

theorem Inv.resume {s : State} (hs : Inv s) (faulted : Bool) : Inv { s with sched := s.sched.resume faulted } := by
  unfold Scheduler.resume
  split
  · exact hs.with_sched _ hs.breakpoints_rising hs.line_lt fun _ => .inl rfl
  · exact hs

theorem Inv.restart {s : State} (hs : Inv s) : Inv s.restart :=
  { hs with
    mem_wf := Memory.wf_afterReset _ hs.mem_wf _ _
    fault_bytes := fun _ hu => nomatch hu
    line_lt := Nat.zero_lt_of_lt hs.line_lt
    target_held := fun h => absurd rfl h
    iff_equal := rfl }

theorem Inv.armAutotype {s : State} (hs : Inv s) : Inv s.armAutotype := by
  unfold State.armAutotype
  split <;> exact hs.with_tape _ hs.tape_pos

theorem Inv.loadImage {s : State} (hs : Inv s) (raw : List Byte) : Inv (s.loadImage raw) :=
  (hs.with_tape { s.tape with blocks := parseTape raw, pos := 0, playing := false }
    (Nat.zero_le _)).restart.armAutotype

/-- The single-step request (60_exceptions.md R343): a MachineStep, only while Paused. -/
theorem hostAct_hostStep (s : State) :
    hostAct .hostStep s = if s.sched.mode = .paused then machineStep s else .next s := rfl

theorem Inv.hostAct_safe {s : State} (hs : Inv s) (req : Request) : Result.safe (hostAct req s) := by
  cases req with
  | start => exact ⟨_, rfl, hs.start⟩
  | pause => exact ⟨_, rfl, hs.pause⟩
  | resume => exact ⟨_, rfl, hs.resume _⟩
  | stop => exact ⟨_, rfl, hs.with_mode_no_target .stopped⟩
  | reset => exact ⟨_, rfl, hs.restart⟩
  | hostStep =>
    rw [hostAct_hostStep]
    split
    · exact hs.machineStep_safe
    · exact ⟨_, rfl, hs⟩
  | poke x v => exact ⟨_, rfl, hs.with_mem _ (Memory.wf_write _ hs.mem_wf x v)⟩
  | addBreakpoint a => exact ⟨_, rfl, hs.with_breakpoints _ (insertBreakpoint_rising _ a hs.breakpoints_rising)⟩
  | removeBreakpoint a => exact ⟨_, rfl, hs.with_breakpoints _ (removeBreakpoint_rising _ a hs.breakpoints_rising)⟩
  | toggleBreakpoint a => exact ⟨_, rfl, hs.with_breakpoints _ (toggleBreakpoint_rising _ a hs.breakpoints_rising)⟩
  | setKey row bit | clearKey row bit => exact ⟨_, rfl, hs.with_bus _⟩
  | loadRom buf =>
    cases buf with
    | none => exact ⟨_, rfl, hs⟩
    | some bytes => exact ⟨_, rfl, hs.with_mem _ (Memory.wf_place _ _ hs.mem_wf 0)⟩
  | loadImage raw =>
    cases raw with
    | none => exact ⟨_, rfl, hs⟩
    | some bytes => exact ⟨_, rfl, hs.loadImage bytes⟩

/-- Settles O10, by the kind of action. -/
theorem everyActionKeepsTheInvariant : Obligations.EveryActionKeepsTheInvariant := by
  intro x s hs
  cases x with
  | step => exact hs.machineStep_safe
  | tick => exact hs.tick_safe
  | host req => exact hs.hostAct_safe req

end Sys2Proof.Machine
end

section
/-! SUPPORT. The fault latch (10_state.md R36): while it is set the CPU is frozen, and only a reset or a tape load
clears it. -/

namespace Sys2Proof.Machine

theorem machineStep_of_fault (s : State) (hf : s.cpu.fault ≠ none) : machineStep s = .next s := by
  rcases machineStep_cases s with ⟨htrap, -⟩ | ⟨-, -, hstep⟩ | ⟨-, hnone, -⟩ | ⟨-, hnone, -⟩ | ⟨-, hnone, -⟩
  · simp [State.trapArmed, hf] at htrap
  · exact hstep
  all_goals exact absurd hnone hf

theorem hostStep_of_fault (s : State) (hf : s.cpu.fault ≠ none) : hostAct .hostStep s = .next s := by
  rw [hostAct_hostStep, machineStep_of_fault s hf, ite_self]

theorem resume_of_fault (s : State) (hf : s.cpu.fault ≠ none) : hostAct .resume s = .next s := by
  have hsome : s.cpu.fault.isSome = true := Option.isSome_iff_ne_none.2 hf
  have hsched : s.sched.resume s.cpu.fault.isSome = s.sched := by simp [Scheduler.resume, hsome]
  rw [hostAct, hsched]

/-- With the latch set the frame loop only ends lines, and the end of a line keeps the latch. -/
theorem tick_keeps_latch (s t : State) (hf : s.cpu.fault ≠ none) (ht : tick s = .next t) :
    t.cpu.fault = s.cpu.fault := by
  rcases tick_cases s with ⟨-, htick⟩ | ⟨-, -, htick⟩ | ⟨-, hnone, -⟩ | ⟨-, hnone, -⟩
  · rw [Host.Outcome.next.inj (ht.symm.trans htick)]
  · rw [Host.Outcome.next.inj (ht.symm.trans htick), State.endLine_fault]
  all_goals exact absurd hnone hf

theorem hostAct_keeps_latch (req : Request) (s t : State) (hf : s.cpu.fault ≠ none) (ht : hostAct req s = .next t)
    (hreset : req ≠ .reset) (hload : ∀ raw, req ≠ .loadImage (some raw)) : t.cpu.fault = s.cpu.fault := by
  cases req with
  | reset => exact absurd rfl hreset
  | hostStep => rw [Host.Outcome.next.inj (ht.symm.trans (hostStep_of_fault s hf))]
  | loadRom buf => cases buf <;> obtain rfl := Host.Outcome.next.inj ht <;> rfl
  | loadImage raw =>
    cases raw with
    | none => obtain rfl := Host.Outcome.next.inj ht; rfl
    | some bytes => exact absurd rfl (hload bytes)
  | _ => obtain rfl := Host.Outcome.next.inj ht; rfl

/-- Settles O7: the step, the single-step and `resume()` by their lemmas, the interrupt by `interrupt_lost`; then the
latch action by action. -/
theorem latchedFaultFreezesTheCpu : Obligations.LatchedFaultFreezesTheCpu := by
  intro s hf
  refine ⟨⟨machineStep_of_fault s hf, s.interrupt_lost (.inl hf), hostStep_of_fault s hf, resume_of_fault s hf⟩, ?_⟩
  intro x t ht hchanged
  cases x with
  | step =>
    obtain rfl : s = t := Host.Outcome.next.inj ((machineStep_of_fault s hf).symm.trans ht)
    exact absurd rfl hchanged
  | tick => exact absurd (tick_keeps_latch s t hf ht) hchanged
  | host req =>
    by_contra hother
    simp only [Action.host.injEq, not_or, not_exists] at hother
    obtain ⟨hreset, hload⟩ := hother
    exact hchanged (hostAct_keeps_latch req s t hf ht hreset hload)

end Sys2Proof.Machine
end

section
/-! SUPPORT. The register file: the shadow set (10_state.md R22), the pairs (R21) and the refresh counter (R25). -/

namespace Sys2Proof.Machine

open Sys2Proof.Claim

/-! ## The shadow set -/

/-- Reading `R` neither sees nor changes the shadow set. -/
theorem State.readR_withShadowsOf (u s : State) :
    (withShadowsOf u s).readR = (s.readR.1, withShadowsOf u s.readR.2) := by
  have hcfg : (withShadowsOf u s).cfg = s.cfg := rfl
  unfold State.readR
  rw [hcfg]
  cases s.cfg.rPolicy <;> rfl

/-- No instruction but the two exchanges reads or writes the shadow set. An instruction on a named register or pair is
split by its operand; one with two outcomes tests a condition that the shadow set has no part in. -/
theorem exec_withShadowsOf (i : Instr) (s u : State) (haf : i ≠ .exAfAf) (hexx : i ≠ .exx) :
    exec i (withShadowsOf u s) = mapNext (withShadowsOf u) (exec i s) := by
  cases i with
  | exAfAf => exact absurd rfl haf
  | exx => exact absurd rfl hexx
  | ldRR r _ | ldRN r _ | ldRHl r | incR r | decR r | rlcR r | rrcR r | rlR r | rrR r | slaR r | sraR r | srlR r
  | resR _ r | setR _ r => cases r <;> rfl
  | ldDdNn p _ | incSs p | decSs p | popQq p => cases p <;> rfl
  | jrCc _ _ | djnz _ | jpCcNn _ _ | callCcNn _ _ | retCc _ | ldir | lddr =>
    simp only [exec, execJrCc, execDjnz, execJpCcNn, execCallCcNn, execRetCc, execLdir, execLddr, mapNext_ite]
    rfl
  | ldAR => simp only [exec, execLdAR, State.readR_withShadowsOf]; rfl
  | _ => rfl

/-- Settles O14: the exchanges by their meaning, every other instruction by commuting with the replacement. -/
theorem shadowSetReachedOnlyByExchanges : Obligations.ShadowSetReachedOnlyByExchanges :=
  ⟨fun _ => ⟨⟨rfl, rfl⟩, ⟨rfl, rfl⟩⟩, exec_withShadowsOf⟩

/-! ## Pairs and registers -/

theorem Cpu.setReg_setReg_reg (c : Cpu) (dst : Reg) (v : Byte) : (c.setReg dst v).setReg dst (c.reg dst) = c := by
  cases dst <;> rfl

theorem Cpu.setPair_setPair_pair (c : Cpu) (dst : RegPair) (v : Word) :
    (c.setPair dst v).setPair dst (c.pair dst) = c := by
  cases dst <;> simp [Cpu.setPair, Cpu.pair, Cpu.setBc, Cpu.setDe, Cpu.setHl, Cpu.bc, Cpu.de, Cpu.hl]

theorem Cpu.setStackPair_setStackPair_stackPair (c : Cpu) (dst : StackPair) (v : Word) :
    (c.setStackPair dst v).setStackPair dst (c.stackPair dst) = c := by
  cases dst <;>
    simp [Cpu.setStackPair, Cpu.stackPair, Cpu.setBc, Cpu.setDe, Cpu.setHl, Cpu.setAf, Cpu.bc, Cpu.de, Cpu.hl, Cpu.af]

/-- Settles O16: the halves by `mkWord_toNat`, then read after write and restoration for each operand class. -/
theorem registerPairsAreTheirHalves : Obligations.RegisterPairsAreTheirHalves := by
  intro c
  have hhalves (hi lo : Byte) : (mkWord hi lo).toNat = 256 * hi.toNat + lo.toNat := by
    rw [mkWord_toNat, Nat.mul_comm]
  exact ⟨⟨hhalves _ _, hhalves _ _, hhalves _ _, hhalves _ _⟩, c.pair_setPair, c.stackPair_setStackPair,
    c.reg_setReg, c.setReg_setReg_reg, c.setPair_setPair_pair, c.setStackPair_setStackPair_stackPair⟩

/-! ## The refresh counter -/

theorem bumpR_toNat (r : Byte) : (bumpR r).toNat = 128 * (r.toNat / 128) + (r.toNat + 1) % 128 := by
  revert r
  decide

/-- An opcode with `z = 7`, as `RST p` has for every `p`, selects no other page (30_encoding.md R97, R102). -/
theorem opcode_seven_selects_no_page (x y : Nat) :
    ¬ (opcode x y 7 = 0xCB ∨ opcode x y 7 = 0xED ∨ opcode x y 7 = 0xDD ∨ opcode x y 7 = 0xFD) := by
  have hlow : (opcode x y 7).toNat % 8 = 7 := by
    simp only [opcode, BitVec.toNat_ofNat]
    omega
  rintro (h | h | h | h) <;> rw [h] at hlow <;> cases hlow

/-- Two opcode bytes exactly when the first selects a page (30_encoding.md R92, R102). `RST p` apart, the first byte is
a literal once the register, pair or condition that stands in it is named. -/
theorem opcodeBytes_eq (i : Instr) : ∃ b0 rest, encode i = b0 :: rest ∧
    i.opcodeBytes = if b0 = 0xCB ∨ b0 = 0xED ∨ b0 = 0xDD ∨ b0 = 0xFD then 2 else 1 := by
  cases i with
  | rst p => exact ⟨_, _, rfl, (if_neg (opcode_seven_selects_no_page 3 _)).symm⟩
  | ldRR dst src => cases dst <;> cases src <;> exact ⟨_, _, rfl, rfl⟩
  | ldRN r _ | ldRHl r | ldHlR r | addR r | adcR r | subR r | sbcR r | andR r | xorR r | orR r | cpR r
  | incR r | decR r => cases r <;> exact ⟨_, _, rfl, rfl⟩
  | ldDdNn p _ | addHlSs p | incSs p | decSs p | pushQq p | popQq p => cases p <;> exact ⟨_, _, rfl, rfl⟩
  | jrCc cc _ | jpCcNn cc _ | callCcNn cc _ | retCc cc => cases cc <;> exact ⟨_, _, rfl, rfl⟩
  | _ => exact ⟨_, _, rfl, rfl⟩

/-- Settles O6: one count in arithmetic, and the number of counts by the encoding. -/
theorem refreshCountsOpcodeFetches : Obligations.RefreshCountsOpcodeFetches := ⟨bumpR_toNat, opcodeBytes_eq⟩

end Sys2Proof.Machine
end

section
/-! SUPPORT. ROM (20_memory.md R61, R63, R83): each operation that changes memory, `loadRom` apart, keeps every byte of it
and the canonical form; then so does each action. -/

namespace Sys2Proof.Machine

/-! ## The operations -/

/-- `m` is in canonical form and has the ROM bytes of `m₀`. -/
def Memory.keepsRomOf (m₀ m : Memory) : Prop := m.wf ∧ ∀ a < romSize, m.read a = m₀.read a

theorem Memory.keepsRomOf_self (m : Memory) (hm : m.wf) : m.keepsRomOf m := ⟨hm, fun _ _ => rfl⟩

theorem Memory.keepsRomOf_write (m₀ m : Memory) (x : Word) (v : Byte) (hm : m₀.keepsRomOf m) :
    m₀.keepsRomOf (m.write x v) :=
  ⟨Memory.wf_write m hm.1 x v, fun a ha => (Memory.read_write_rom m x v a ha hm.1.1).trans (hm.2 a ha)⟩

theorem Memory.keepsRomOf_writeBytes (m : Memory) (hm : m.wf) (x : Word) (vs : List Byte) :
    m.keepsRomOf (m.writeBytes x vs) :=
  ⟨Memory.wf_writeBytes vs m hm x, Memory.read_writeBytes_rom vs m hm x⟩

/-- Entries added at the end that do not name an address are not read there. -/
theorem Memory.read_append_of_not_listed (m m' : Memory) (k : Nat) (h : ∀ p ∈ m', p.1 ≠ k) :
    Memory.read (m ++ m') k = m.read k := by
  induction m with
  | nil => exact Memory.read_of_not_listed m' k h
  | cons p m ih => rw [List.cons_append, Memory.read_cons, Memory.read_cons, ih]

/-- A reset keeps ROM (70_reset_and_hazards.md R400): the noise lies in RAM. -/
theorem Memory.read_afterReset_rom (m : Memory) (mode : RamResetMode) (draw k : Nat) (hk : k < romSize) :
    (m.afterReset mode draw).read k = m.read k := by
  have hrom := Memory.read_romPart m k hk
  cases mode with
  | zero => exact hrom
  | noise =>
    have hnoise : ∀ p ∈ noiseRam draw, p.1 ≠ k := fun p hp =>
      (lt_of_lt_of_le hk (mem_noiseRam draw p hp).2.1).ne'
    exact (Memory.read_append_of_not_listed _ _ k hnoise).trans hrom

theorem Memory.keepsRomOf_afterReset (m : Memory) (hm : m.wf) (mode : RamResetMode) (draw : Nat) :
    m.keepsRomOf (m.afterReset mode draw) :=
  ⟨Memory.wf_afterReset m hm mode draw, Memory.read_afterReset_rom m mode draw⟩

theorem State.performFastLoad_keepsRom (s : State) (hm : s.mem.wf) : s.mem.keepsRomOf s.performFastLoad.mem := by
  cases h : s.tapeMatch with
  | none =>
    rw [State.performFastLoad_mismatch s h]
    exact Memory.keepsRomOf_self _ hm
  | some data =>
    simp only [State.performFastLoad_match s data h]
    split
    · exact Memory.keepsRomOf_writeBytes _ hm _ _
    · exact Memory.keepsRomOf_self _ hm

theorem State.interrupt_keepsRom (s : State) (hm : s.mem.wf) : s.mem.keepsRomOf s.interrupt.mem := by
  unfold State.interrupt
  split
  · exact Memory.keepsRomOf_self _ hm
  · exact Memory.keepsRomOf_write _ _ _ _ (Memory.keepsRomOf_write _ _ _ _ (Memory.keepsRomOf_self _ hm))

theorem State.endFrame_keepsRom (s : State) (hm : s.mem.wf) : s.mem.keepsRomOf s.endFrame.mem := by
  rcases s.endFrame_cpu_mem with ⟨-, hmem⟩ | ⟨-, hmem⟩ <;> rw [hmem]
  · exact Memory.keepsRomOf_self _ hm
  · exact s.interrupt_keepsRom hm

theorem State.endLine_keepsRom (s : State) (hm : s.mem.wf) : s.mem.keepsRomOf s.endLine.mem := by
  unfold State.endLine
  split
  · exact Memory.keepsRomOf_self _ hm
  · exact State.endFrame_keepsRom _ hm

@[simp] theorem State.armAutotype_mem (s : State) : s.armAutotype.mem = s.mem := by
  unfold State.armAutotype
  split <;> rfl

theorem State.loadImage_keepsRom (s : State) (hm : s.mem.wf) (raw : List Byte) :
    s.mem.keepsRomOf (s.loadImage raw).mem := by
  rw [State.loadImage, State.armAutotype_mem]
  exact Memory.keepsRomOf_afterReset _ hm _ _

/-! ## The actions -/

/-- The outcome is a next state with the ROM bytes of `s`, and memory in canonical form. -/
def Result.keepsRomOf (s : State) (out : Result) : Prop := Result.nextSatisfies out fun t => s.mem.keepsRomOf t.mem

theorem exec_keepsRom (i : Instr) (s : State) (hm : s.mem.wf) : Result.keepsRomOf s (exec i s) :=
  exec_next_mem s.mem.keepsRomOf (fun m x v => Memory.keepsRomOf_write _ m x v) i s (Memory.keepsRomOf_self _ hm)

theorem machineStep_keepsRom (s : State) (hm : s.mem.wf) : Result.keepsRomOf s (machineStep s) := by
  rcases machineStep_cases s with ⟨-, hstep⟩ | ⟨-, -, hstep⟩ | ⟨-, -, -, hstep⟩ | ⟨-, -, -, i, -, hstep⟩ |
    ⟨-, -, -, e, -, hstep⟩ <;> rw [hstep]
  · exact ⟨_, rfl, s.performFastLoad_keepsRom hm⟩
  · exact ⟨_, rfl, Memory.keepsRomOf_self _ hm⟩
  · exact ⟨_, rfl, Memory.keepsRomOf_self _ hm⟩
  · have hexec := exec_keepsRom i (s.fetched i)
    rw [Result.keepsRomOf, State.fetched_mem] at hexec
    exact hexec hm
  · exact ⟨_, rfl, Memory.keepsRomOf_self _ hm⟩

theorem tick_keepsRom (s : State) (hm : s.mem.wf) : Result.keepsRomOf s (tick s) := by
  rcases tick_cases s with ⟨-, htick⟩ | ⟨-, -, htick⟩ | ⟨-, -, -, -, htick⟩ | ⟨-, -, -, -, htick⟩ <;> rw [htick]
  · exact ⟨_, rfl, Memory.keepsRomOf_self _ hm⟩
  · exact ⟨_, rfl, s.endLine_keepsRom hm⟩
  · exact ⟨_, rfl, State.endLine_keepsRom _ hm⟩
  · exact machineStep_keepsRom _ hm

theorem hostAct_keepsRom (req : Request) (s : State) (hm : s.mem.wf) (hreq : ∀ buf, req ≠ .loadRom (some buf)) :
    Result.keepsRomOf s (hostAct req s) := by
  have hself := Memory.keepsRomOf_self _ hm
  cases req with
  | hostStep =>
    rw [hostAct_hostStep]
    split
    · exact machineStep_keepsRom s hm
    · exact ⟨_, rfl, hself⟩
  | poke x v => exact ⟨_, rfl, Memory.keepsRomOf_write _ _ x v hself⟩
  | reset => exact ⟨_, rfl, Memory.keepsRomOf_afterReset _ hm _ _⟩
  | loadRom buf =>
    cases buf with
    | none => exact ⟨_, rfl, hself⟩
    | some bytes => exact absurd rfl (hreq bytes)
  | loadImage raw =>
    cases raw with
    | none => exact ⟨_, rfl, hself⟩
    | some bytes => exact ⟨_, rfl, s.loadImage_keepsRom hm bytes⟩
  | _ => exact ⟨_, rfl, hself⟩

theorem act_keepsRom (x : Action) (s : State) (hm : s.mem.wf) (hx : ∀ buf, x ≠ .host (.loadRom (some buf))) :
    Result.keepsRomOf s (act x s) := by
  cases x with
  | step => exact machineStep_keepsRom s hm
  | tick => exact tick_keepsRom s hm
  | host req => exact hostAct_keepsRom req s hm fun buf hreq => hx buf (congrArg Action.host hreq)

/-- Settles O11: every action but the ROM load keeps ROM, by the kind of action. -/
theorem onlyLoadRomChangesRom : Obligations.OnlyLoadRomChangesRom := by
  intro x s t hm ht hx
  obtain ⟨t', ht', -, hrom⟩ := act_keepsRom x s hm hx
  obtain rfl : t' = t := Host.Outcome.next.inj (ht'.symm.trans ht)
  exact hrom

end Sys2Proof.Machine
end

section
/-! SUPPORT. Memory as a map (20_memory.md R62 to R65): canonical memories that read alike are equal, what one and two
stores leave, and what a load from outside leaves. -/

namespace Sys2Proof.Machine

open Sys2Proof.Claim

/-! ## Equal reads -/

theorem Memory.wf_tail {p : Host.Cell} {m : Memory} (hm : Memory.wf (p :: m)) : Memory.wf m :=
  ⟨(List.pairwise_cons.1 hm.1).2, fun q hq => hm.2 q (List.mem_cons_of_mem p hq)⟩

/-- After its first entry a canonical memory lists only higher addresses. -/
theorem Memory.read_tail_of_le {p : Host.Cell} {m : Memory} (hm : Memory.wf (p :: m)) (k : Nat) (hk : k ≤ p.1) :
    Memory.read m k = Memory.unlisted :=
  Memory.read_below m k fun q hq => lt_of_le_of_lt hk ((List.pairwise_cons.1 hm.1).1 q hq)

/-- Before its first entry a canonical memory lists nothing. -/
theorem Memory.read_cons_of_lt {p : Host.Cell} {m : Memory} (hm : Memory.wf (p :: m)) (k : Nat) (hk : k < p.1) :
    Memory.read (p :: m) k = Memory.unlisted :=
  (if_neg hk.ne').trans (Memory.read_tail_of_le hm k hk.le)

/-- The first entry is read at its address, and is no unlisted byte. -/
theorem Memory.read_cons_self_ne {p : Host.Cell} {m : Memory} (hm : Memory.wf (p :: m)) :
    Memory.read (p :: m) p.1 ≠ Memory.unlisted := by
  rw [show Memory.read (p :: m) p.1 = p.2 from if_pos rfl]
  exact (hm.2 p List.mem_cons_self).1

/-- Memories that read alike start at the same address: at a lower one, one of them would list a byte and the other
nothing. -/
theorem Memory.first_address_le {p q : Host.Cell} {m m' : Memory} (hm : Memory.wf (p :: m)) (hm' : Memory.wf (q :: m'))
    (h : ∀ a, Memory.read (p :: m) a = Memory.read (q :: m') a) : q.1 ≤ p.1 := by
  by_contra hlt
  exact Memory.read_cons_self_ne hm ((h p.1).trans (Memory.read_cons_of_lt hm' p.1 (not_le.1 hlt)))

/-- Canonical memories that read alike are the same list. -/
theorem Memory.eq_of_read_eq (m m' : Memory) (hm : m.wf) (hm' : m'.wf) (h : ∀ a, m.read a = m'.read a) : m = m' := by
  induction m generalizing m' with
  | nil =>
    cases m' with
    | nil => rfl
    | cons q m' => exact absurd (h q.1).symm (Memory.read_cons_self_ne hm')
  | cons p m ih =>
    cases m' with
    | nil => exact absurd (h p.1) (Memory.read_cons_self_ne hm)
    | cons q m' =>
      have haddr : p.1 = q.1 :=
        le_antisymm (Memory.first_address_le hm' hm fun a => (h a).symm) (Memory.first_address_le hm hm' h)
      obtain ⟨a, v⟩ := p
      obtain ⟨b, w⟩ := q
      obtain rfl : a = b := haddr
      obtain rfl : v = w := by simpa [Memory.read_cons] using h a
      have htails : ∀ k, Memory.read m k = Memory.read m' k := by
        intro k
        by_cases hk : a = k
        · rw [Memory.read_tail_of_le hm k hk.ge, Memory.read_tail_of_le hm' k hk.ge]
        · simpa [Memory.read_cons, hk] using h k
      rw [ih m' (Memory.wf_tail hm) (Memory.wf_tail hm') htails]

/-! ## Stores -/

/-- A store changes its one byte alone, unless in ROM (20_memory.md R63). -/
theorem storedOne_write (s : State) (hm : s.mem.wf) (x : Word) (v : Byte) : storedOne s (s.mem.write x v) x v := by
  intro y
  rw [Memory.read_write s.mem hm]
  refine if_congr (and_congr_right fun hyx => ?_) rfl rfl
  rw [hyx, romSize]

/-- Two stores at different addresses change their two bytes alone, each unless in ROM. -/
theorem storedTwo_write_write (s : State) (hm : s.mem.wf) (x y : Word) (v w : Byte) (hxy : x ≠ y) :
    storedTwo s ((s.mem.write x v).write y w) x v y w := by
  intro z
  rw [Memory.read_write_write s.mem hm, ← State.memRead_eq]
  by_cases hzx : z = x
  · simp [hzx, hxy, romSize]
  · by_cases hzy : z = y
    · simp [hzy, hxy.symm, romSize]
    · simp [hzx, hzy]

theorem Word.self_ne_add_one (x : Word) : x ≠ x + 1 := by
  intro h
  bv_omega

theorem op_toNat (v : Byte) : op v.toNat = v := by simp [op]

theorem op_mod_eq_loByte (v : Word) : op (v.toNat % 256) = loByte v := by rw [← loByte_toNat, op_toNat]

theorem op_div_eq_hiByte (v : Word) : op (v.toNat / 256) = hiByte v := by rw [← hiByte_toNat, op_toNat]

/-- A two-byte read is two one-byte reads, the low byte at the lower address (20_memory.md R64, R65). -/
theorem State.memRead16_toNat (s : State) (x : Word) :
    (s.memRead16 x).toNat = (s.memRead x).toNat + 256 * (s.memRead (x + 1)).toNat := by
  rw [State.memRead16, mkWord_toNat]
  omega

/-- Settles O15: equal reads by induction on the two lists, the accesses by their lemmas. -/
theorem memoryAccess : Obligations.MemoryAccess := by
  refine ⟨Memory.eq_of_read_eq, fun s x hm => ⟨fun v => ⟨Memory.wf_write _ hm x v, storedOne_write s hm x v⟩,
    s.memRead16_toNat x, fun v => ?_⟩⟩
  rw [op_mod_eq_loByte, op_div_eq_hiByte]
  exact storedTwo_write_write s hm x (x + 1) _ _ (Word.self_ne_add_one x)

end Sys2Proof.Machine
end

section
/-! SUPPORT. What the host loads and edits (20_memory.md R63, R73, R83; 60_exceptions.md R342, R352, R360). -/

namespace Sys2Proof.Machine

open Sys2Proof.Claim

/-! ## Loading -/

/-- Bytes placed from an address on, where the addresses do not wrap: each of them is read back at its place, and every
other byte is kept. -/
theorem Memory.read_place (vs : List Byte) (m : Memory) (hm : m.wf) (x : Word) (hx : x.toNat + vs.length < memSize)
    (k : Nat) : (m.place x vs).read k = if x.toNat ≤ k then (vs[k - x.toNat]?).getD (m.read k) else m.read k := by
  induction vs generalizing m x with
  | nil => simp [Memory.place]
  | cons v vs ih =>
    rw [List.length_cons, memSize] at hx
    have hnext : (x + 1).toNat = x.toNat + 1 := by bv_omega
    rw [Memory.place, ih _ (Memory.wf_set m hm _ (Word.toNat_lt_memSize x) v) _ (by rw [hnext, memSize]; omega), hnext,
      Memory.read_set m hm.1]
    rcases lt_trichotomy k x.toNat with hlt | heq | hgt
    · rw [if_neg (by omega), if_neg (by omega), if_neg (by omega)]
    · rw [if_neg (by omega), if_pos heq, if_pos heq.ge, heq, Nat.sub_self]
      rfl
    · obtain ⟨d, rfl⟩ : ∃ d, k = x.toNat + 1 + d := ⟨k - (x.toNat + 1), by omega⟩
      rw [if_pos (by omega), if_neg (by omega), if_pos (by omega), Nat.add_sub_cancel_left,
        show x.toNat + 1 + d - x.toNat = d + 1 by omega, List.getElem?_cons_succ]

/-- The ROM load (20_memory.md R83): at most ROM_SIZE bytes, from address 0; every other byte is kept. -/
theorem State.loadRom_read (s : State) (hm : s.mem.wf) (buf : List Byte) (a : Nat) :
    (s.loadRom buf).mem.read a =
      if h : a < min buf.length 16384 then buf[a]'(by omega) else s.mem.read a := by
  have hzero : (0 : Word).toNat = 0 := rfl
  have hlen : (0 : Word).toNat + (buf.take romSize).length < memSize := by
    rw [hzero, Nat.zero_add]
    exact lt_of_le_of_lt (List.length_take_le romSize buf) (by decide)
  rw [State.loadRom, Memory.read_place _ s.mem hm 0 hlen a, hzero, if_pos a.zero_le, Nat.sub_zero]
  split
  · next h =>
    rw [List.getElem?_take_of_lt (by rw [romSize]; omega), List.getElem?_eq_getElem (by omega), Option.getD_some]
  · next h =>
    rw [List.getElem?_eq_none (by rw [List.length_take, romSize]; omega), Option.getD_none]

/-- Arming autotype changes the tape alone. -/
theorem State.armAutotype_eq (s : State) : s.armAutotype = { s with tape := s.armAutotype.tape } := by
  unfold State.armAutotype
  split <;> rfl

/-- The tape once autotype is armed: with 0 frames autotype has ended, and the tape plays (60_exceptions.md R357). -/
theorem State.armAutotype_tape (s : State) :
    s.armAutotype.tape =
      { s.tape with
        playing := s.tape.playing || decide (s.cfg.autotypeFrames = 0)
        autotype := if s.cfg.autotypeFrames = 0 then .idle else .armed s.cfg.autotypeFrames } := by
  unfold State.armAutotype
  split <;> simp [*]

/-- A tape load is a reset with another tape (60_exceptions.md R352). -/
theorem State.loadImage_eq (s : State) (raw : List Byte) :
    s.loadImage raw = { s.restart with tape := (s.loadImage raw).tape } :=
  State.armAutotype_eq _

/-- The tape after a load: at its first block, and not playing until autotype ends (60_exceptions.md R352, R357). -/
theorem State.loadImage_tape (s : State) (raw : List Byte) :
    (s.loadImage raw).tape =
      { blocks := parseTape raw, pos := 0, playing := decide (s.cfg.autotypeFrames = 0)
        autotype := if s.cfg.autotypeFrames = 0 then .idle else .armed s.cfg.autotypeFrames } :=
  State.armAutotype_tape _

/-- Settles O58: the ROM load by what it leaves at each address, the tape load by the tape it leaves. -/
theorem hostLoads : Obligations.HostLoads := by
  intro s hm
  refine ⟨rfl, rfl, fun buf => ⟨(s.loadRom buf).mem, rfl, fun a => s.loadRom_read hm buf a.toNat⟩, fun raw => ?_⟩
  refine ⟨(s.loadImage raw).tape, congrArg Host.Outcome.next (s.loadImage_eq raw), ?_⟩
  rw [State.loadImage_tape]
  exact ⟨rfl, rfl, decide_eq_true_iff, rfl⟩

/-! ## Keys -/

theorem getLsbD_one_shiftLeft (b k : Fin 8) : (1#8 <<< b.val).getLsbD k.val = decide (k = b) := by
  revert b k
  decide

theorem getLsbD_clear_bit (v : Byte) (b k : Fin 8) :
    (v &&& ~~~(1#8 <<< b.val)).getLsbD k.val = if k = b then false else v.getLsbD k.val := by
  rw [BitVec.getLsbD_and, BitVec.getLsbD_not, getLsbD_one_shiftLeft]
  by_cases hk : k = b <;> simp [hk]

theorem getLsbD_set_bit (v : Byte) (b k : Fin 8) :
    (v ||| 1#8 <<< b.val).getLsbD k.val = if k = b then true else v.getLsbD k.val := by
  rw [BitVec.getLsbD_or, getLsbD_one_shiftLeft]
  by_cases hk : k = b <;> simp [hk]

theorem Bus.setKeyBit_row_same (bus : Bus) (row bit : Fin 8) (pressed : Bool) :
    (bus.setKeyBit row bit pressed).kb[row] =
      if pressed then bus.kb[row] &&& ~~~(1#8 <<< bit.val) else bus.kb[row] ||| 1#8 <<< bit.val :=
  Vector.getElem_set_self row.isLt

theorem Bus.setKeyBit_row_other (bus : Bus) (row bit i : Fin 8) (pressed : Bool) (hi : i ≠ row) :
    (bus.setKeyBit row bit pressed).kb[i] = bus.kb[i] :=
  Vector.getElem_set_ne row.isLt i.isLt fun h => hi (Fin.ext h.symm)

/-- A key request writes its one bit of the keyboard matrix (20_memory.md R73): 0 when pressed, 1 when released. -/
theorem Bus.setKeyBit_getLsbD (bus : Bus) (row bit : Fin 8) (pressed : Bool) (i k : Fin 8) :
    ((bus.setKeyBit row bit pressed).kb[i]).getLsbD k.val =
      if i = row ∧ k = bit then !pressed else (bus.kb[i]).getLsbD k.val := by
  by_cases hi : i = row
  · subst hi
    rw [Bus.setKeyBit_row_same]
    cases pressed
    · simpa using getLsbD_set_bit _ bit k
    · simpa using getLsbD_clear_bit _ bit k
  · rw [Bus.setKeyBit_row_other _ _ _ _ _ hi, if_neg fun h => hi h.1]

/-! ## Breakpoints -/

theorem mem_insertBreakpoint_iff (bs : List Word) (a x : Word) : x ∈ insertBreakpoint bs a ↔ x = a ∨ x ∈ bs := by
  induction bs with
  | nil => simp [insertBreakpoint]
  | cons b bs ih =>
    unfold insertBreakpoint
    split
    · exact List.mem_cons
    · split
      · next hab => simp [hab]
      · simp only [List.mem_cons, ih, or_left_comm]

theorem mem_removeBreakpoint_iff (bs : List Word) (a x : Word) : x ∈ removeBreakpoint bs a ↔ x ≠ a ∧ x ∈ bs := by
  simp [removeBreakpoint, and_comm]

theorem mem_toggleBreakpoint_iff (bs : List Word) (a x : Word) :
    x ∈ toggleBreakpoint bs a ↔ if x = a then x ∉ bs else x ∈ bs := by
  unfold toggleBreakpoint
  by_cases ha : a ∈ bs
  · rw [if_pos ha, mem_removeBreakpoint_iff]
    by_cases hx : x = a <;> simp [hx, ha]
  · rw [if_neg ha, mem_insertBreakpoint_iff]
    by_cases hx : x = a <;> simp [hx, ha]

/-- Settles O59: each request's new part of the state is what the model's own operation leaves. -/
theorem hostEdits : Obligations.HostEdits := by
  intro s hm
  refine ⟨fun x v => ⟨_, rfl, storedOne_write s hm x v⟩, fun row bit => ?_, fun x => ?_⟩
  · exact ⟨_, _, rfl, rfl, fun i k =>
      ⟨s.bus.setKeyBit_getLsbD row bit true i k, s.bus.setKeyBit_getLsbD row bit false i k⟩⟩
  · exact ⟨_, _, _, rfl, rfl, rfl, fun y =>
      ⟨mem_insertBreakpoint_iff _ x y, mem_removeBreakpoint_iff _ x y, mem_toggleBreakpoint_iff _ x y⟩⟩

end Sys2Proof.Machine
end

section
/-! SUPPORT. The bytes that an instruction stores (20_memory.md R67) and what the host is told of the dropped ones (R63). -/

namespace Sys2Proof.Machine

/-! ## The stores of an instruction -/

/-- `m'` is `m` after a store of one byte at each of these addresses, in this order. -/
def Memory.storedAt (m : Memory) (addrs : List Word) (m' : Memory) : Prop :=
  ∃ vs : List Byte, vs.length = addrs.length ∧ m' = (addrs.zip vs).foldl (fun m p => m.write p.1 p.2) m

@[simp] theorem Memory.storedAt_none (m : Memory) : m.storedAt [] m := ⟨[], rfl, rfl⟩

@[simp] theorem Memory.storedAt_one (m : Memory) (x : Word) (v : Byte) : m.storedAt [x] (m.write x v) := ⟨[v], rfl, rfl⟩

@[simp] theorem Memory.storedAt_two (m : Memory) (x y : Word) (v w : Byte) :
    m.storedAt [x, y] ((m.write x v).write y w) := ⟨[v, w], rfl, rfl⟩

/-- `SP - 2` is the low byte's address of a push, which decrements `SP` twice (45_stack_calls.md R230). -/
@[simp] theorem State.pushAddresses_eq (s : State) : s.pushAddresses = [s.cpu.sp - 1, s.cpu.sp - 1 - 1] := by
  rw [State.pushAddresses, show s.cpu.sp - 2 = s.cpu.sp - 1 - 1 by bv_omega]

/-- Every instruction answers a next state whose memory is the old one after its stores: none, one, or two, which are a
push or a word. One with two outcomes is split by its condition, which chooses the stores of `CALL cc,nn` alone. -/
theorem exec_storedAt (i : Instr) (s : State) :
    ∃ t, exec i s = .next t ∧ s.mem.storedAt (storeAddresses i s) t.mem := by
  cases i with
  | jrCc _ _ | djnz _ | jpCcNn _ _ | callCcNn _ _ | retCc _ | ldir | lddr =>
    simp only [exec, execJrCc, execDjnz, execJpCcNn, execCallCcNn, execRetCc, execLdir, execLddr, storeAddresses]
    split <;> exact ⟨_, rfl, by simp -implicitDefEqProofs⟩
  | _ =>
    refine ⟨_, rfl, ?_⟩
    simp [storeAddresses, State.aluAdd, State.aluAdc, State.aluSub, State.aluSbc, State.aluAnd, State.aluXor,
      State.aluOr, State.aluCp]

/-! ## What the host is told -/

theorem stepNotices_of_instruction (s : State) (i : Instr) (htrap : s.trapArmed = false) (hfault : s.cpu.fault = none)
    (hhalted : s.cpu.halted = false) (hi : s.decodeNext = .ok i) :
    stepNotices s = droppedWrites s.cfg (storeAddresses i s) := by
  simp [stepNotices, htrap, hfault, hhalted, hi]

theorem stepNotices_of_trap (s : State) (htrap : s.trapArmed = true) :
    stepNotices s = droppedWrites s.cfg s.trapAddresses := by
  rw [stepNotices, if_pos htrap]

/-- A block matches when its flag byte is `A` (60_exceptions.md R354). -/
theorem State.tapeMatch_eq_some_iff (s : State) (data : List Byte) :
    s.tapeMatch = some data ↔ s.tape.blocks[s.tape.pos]? = some (s.cpu.a :: data) := by
  unfold State.tapeMatch
  split
  · next flag rest hblock =>
    rw [hblock]
    by_cases hflag : flag = s.cpu.a <;> simp [hflag]
  · next hblock => exact ⟨fun h => (nomatch h), fun h => absurd h (hblock _ _)⟩

/-- The trap copies a matching block in load mode. -/
theorem State.trapAddresses_of_copy (s : State) (data : List Byte) (hmatch : s.tapeMatch = some data)
    (hload : flagC s.cpu.f = true) :
    s.trapAddresses = (List.range (min s.cpu.de.toNat data.length)).map fun k => s.cpu.ix + BitVec.ofNat 16 k := by
  rw [State.trapAddresses, hmatch]
  exact if_pos hload

/-- The trap copies nothing on a mismatch or in verify mode. -/
theorem State.trapAddresses_of_no_copy (s : State) (h : s.tapeMatch = none ∨ flagC s.cpu.f = false) :
    s.trapAddresses = [] := by
  unfold State.trapAddresses
  split
  · next data hmatch =>
    rcases h with hnone | hverify
    · cases hmatch.symm.trans hnone
    · exact if_neg (by rw [hverify]; decide)
  · rfl

theorem interruptNotices_eq (s : State) (hfault : s.cpu.fault = none) :
    interruptNotices s = if s.cpu.iff1 = true then droppedWrites s.cfg s.pushAddresses else [] := by
  cases hiff : s.cpu.iff1 <;> simp [interruptNotices, hfault, hiff]

/-- At the end of a running frame the host is told what the frame interrupt tells it. -/
theorem tickNotices_of_frame_end (s : State) (hmode : s.sched.mode = .running) (htime : s.lineTarget ≤ s.cpu.tstates)
    (hline : s.cfg.linesPerFrame ≤ s.sched.line + 1) : tickNotices s = interruptNotices s := by
  rw [tickNotices, if_neg (by rw [hmode]; decide), if_pos (.inr (.inr htime)), endLineNotices]
  exact if_neg (by simp [hmode, hline])

/-- Settles O60: the stores instruction by instruction, the notices by the action that tells them. -/
theorem droppedWritesAreReported : Obligations.DroppedWritesAreReported := by
  constructor
  · intro i s
    obtain ⟨t, ht, vs, hlen, hmem⟩ := exec_storedAt i s
    exact ⟨vs, t, ht, hlen, hmem⟩
  intro s reported
  have hreported (addrs : List Word) : droppedWrites s.cfg addrs = reported addrs := droppedWrites_eq s.cfg addrs
  refine ⟨fun i htrap hfault hhalted hi => ?_, fun htrap data hblock hload => ?_, fun htrap hno => ?_,
    fun hmode => if_pos hmode, fun hmode hfault htime hline => ?_, fun x v => hreported [x]⟩
  · rw [storeAddresses_fetched, ← hreported]
    exact stepNotices_of_instruction s i htrap hfault hhalted hi
  · rw [← hreported, ← s.trapAddresses_of_copy data ((s.tapeMatch_eq_some_iff data).2 hblock) hload]
    exact stepNotices_of_trap s htrap
  · have hno : s.tapeMatch = none ∨ flagC s.cpu.f = false := hno.imp_left fun h =>
      Option.eq_none_iff_forall_ne_some.2 fun data hmatch => h data ((s.tapeMatch_eq_some_iff data).1 hmatch)
    rw [actNotices, stepNotices_of_trap s htrap, s.trapAddresses_of_no_copy hno]
    rfl
  · rw [actNotices, tickNotices_of_frame_end s hmode htime hline, interruptNotices_eq s hfault, hreported]
    rfl

end Sys2Proof.Machine
end

section
/-! SUPPORT. The rows of the encoding tables (30_encoding.md R97 to R102): the decoder finds the row of the opcode bytes
and reads its operand; a row's instructions encode to its opcode bytes and their operand; every well-formed instruction
has a row. The two directions of the round trip follow. -/

namespace Sys2Proof

open Sys2Proof.Machine Sys2Proof.Claim

/-! ## Rows -/

/-- The row of these opcode bytes: one byte on the main page, or the byte that selects
another page and a byte on that page (R97 to R102). -/
def rowOf : List Byte → Option Form
  | [b0] => if (pageOf b0).isSome then none else mainForm b0
  | [b0, b1] => (pageOf b0).bind fun page => page b1
  | _ => none

/-- A row's instruction with the operand `n` or `nn`, whichever the row takes. -/
def Form.instr (n : Byte) (nn : Word) : Form → Instr
  | .done i => i
  | .takesByte mk => mk n
  | .takesWord mk => mk nn

/-- The bytes of a row's operand, low byte first (R95). -/
def Form.operand (n : Byte) (nn : Word) : Form → List Byte
  | .done _ => []
  | .takesByte _ => [n]
  | .takesWord _ => [loByte nn, hiByte nn]

/-- A row reads its operand and leaves what follows it. -/
theorem Form.finish_operand (form : Form) (key rest : List Byte) (n : Byte) (nn : Word) :
    form.finish key (form.operand n nn ++ rest) = .ok (form.instr n nn, rest) := by
  cases form with
  | done i => rfl
  | takesByte mk => rfl
  | takesWord mk => simp [Form.operand, Form.finish, Form.instr]

/-- A row that is read has its operand at the front. -/
theorem Form.eq_of_finish_ok {form : Form} {key tail rest : List Byte} {i : Instr}
    (h : form.finish key tail = .ok (i, rest)) :
    ∃ n nn, i = form.instr n nn ∧ tail = form.operand n nn ++ rest := by
  unfold Form.finish at h
  split at h <;> cases h
  · exact ⟨0, 0, rfl, rfl⟩
  · exact ⟨_, 0, rfl, rfl⟩
  · next mk lo hi => exact ⟨0, mkWord hi lo, rfl, by simp [Form.operand]⟩

/-- Two bytes are enough for any operand. -/
theorem Form.finish_two_bytes (form : Form) (key : List Byte) (b c : Byte) (tail : List Byte) :
    ∃ i rest, form.finish key (b :: c :: tail) = .ok (i, rest) := by
  cases form <;> exact ⟨_, _, rfl⟩

/-! ## The decoder reads a row -/

/-- Where the opcode bytes have a row, the row decides. -/
theorem decode_of_row {key : List Byte} {form : Form} (hrow : rowOf key = some form) (tail : List Byte) :
    decode (key ++ tail) = form.finish key tail := by
  unfold rowOf at hrow
  split at hrow
  · next b0 =>
    cases hpage : pageOf b0 with
    | none =>
      have hmain : mainForm b0 = some form := by simpa [hpage] using hrow
      simp [decode, hpage, hmain]
    | some page => simp [hpage] at hrow
  · next b0 b1 =>
    obtain ⟨page, hpage, hform⟩ := Option.bind_eq_some_iff.1 hrow
    simp [decode, hpage, hform]
  · cases hrow

/-- Where bytes decode, opcode bytes with a row stand at their front, and the row is read. -/
theorem row_of_decode_ok {bytes rest : List Byte} {i : Instr} (h : decode bytes = .ok (i, rest)) :
    ∃ key form tail, rowOf key = some form ∧ bytes = key ++ tail ∧ form.finish key tail = .ok (i, rest) := by
  unfold decode at h
  split at h
  · cases h
  · next b0 tail =>
    split at h
    · next hpage =>
      split at h
      · cases h
      · next form hmain => exact ⟨[b0], form, tail, by simp [rowOf, hpage, hmain], rfl, h⟩
    · next page hpage =>
      split at h
      · cases h
      · next b1 tail =>
        split at h
        · cases h
        · next form hform => exact ⟨[b0, b1], form, tail, by simp [rowOf, hpage, hform], rfl, h⟩

/-- Bytes decode exactly when they are a row's opcode bytes and an operand, and then to the row's instruction with that
operand. -/
theorem decode_eq_ok_iff (bytes rest : List Byte) (i : Instr) :
    decode bytes = .ok (i, rest) ↔
      ∃ key form n nn, rowOf key = some form ∧ i = form.instr n nn ∧ bytes = key ++ form.operand n nn ++ rest := by
  constructor
  · intro h
    obtain ⟨key, form, tail, hrow, rfl, hfinish⟩ := row_of_decode_ok h
    obtain ⟨n, nn, hi, rfl⟩ := Form.eq_of_finish_ok hfinish
    exact ⟨key, form, n, nn, hrow, hi, (List.append_assoc ..).symm⟩
  · rintro ⟨key, form, n, nn, hrow, rfl, rfl⟩
    rw [List.append_assoc, decode_of_row hrow, Form.finish_operand]

/-! ## A row's instructions encode to its bytes -/

/-- The instructions of a row are well-formed, and each encodes to these opcode bytes and its operand. -/
def Form.encodesTo (key : List Byte) (form : Form) : Prop :=
  ∀ n nn, WellFormed (form.instr n nn) ∧ encode (form.instr n nn) = key ++ form.operand n nn

/-- An opcode byte is its three fields (R94); `p` and `q` are the upper two bits and the lowest bit of `y`. -/
theorem eq_opcode_fields (op : Byte) :
    ∃ x y z, x < 4 ∧ y < 8 ∧ z < 8 ∧ op = opcode x y z ∧ fieldX op = x ∧ fieldY op = y ∧ fieldZ op = z ∧
      fieldP op = y / 2 ∧ fieldQ op = y % 2 := by
  have hop := op.isLt
  refine ⟨fieldX op, fieldY op, fieldZ op, ?_, ?_, ?_, ?_, rfl, rfl, rfl, ?_, ?_⟩
  case refine_4 =>
    refine BitVec.eq_of_toNat_eq ?_
    rw [opcode, BitVec.toNat_ofNat, fieldX, fieldY, fieldZ]
    omega
  all_goals simp only [fieldX, fieldY, fieldZ, fieldP, fieldQ]; omega

/-- `r[i]` is a register, named by its index, or the operand `(HL)` at index 6 (R96). -/
theorem regOf_cases (k : Nat) (hk : k < 8) :
    (∃ r : Reg, regOf k = some r ∧ k = r.index) ∨ (regOf k = none ∧ k = 6) :=
  match k, hk with
  | 0, _ | 1, _ | 2, _ | 3, _ | 4, _ | 5, _ | 7, _ => .inl ⟨_, rfl, rfl⟩
  | 6, _ => .inr ⟨rfl, rfl⟩

/-- Quadrant 0 is a table without one operand pattern (R97), so each of its 64 rows is computed. -/
theorem mainX0_encodesTo (y z : Nat) (hy : y < 8) (hz : z < 8) :
    (mainX0 y z (y / 2) (y % 2)).encodesTo [opcode 0 y z] := by
  interval_cases z <;> interval_cases y <;> exact fun _ _ => ⟨rfl, rfl⟩

theorem mainX1_encodesTo (y z : Nat) (hy : y < 8) (hz : z < 8) : (mainX1 y z).encodesTo [opcode 1 y z] := by
  obtain ⟨dst, hdst, rfl⟩ | ⟨hdst, rfl⟩ := regOf_cases y hy <;>
    obtain ⟨src, hsrc, rfl⟩ | ⟨hsrc, rfl⟩ := regOf_cases z hz <;>
    · simp only [mainX1, hdst, hsrc]
      exact fun _ _ => ⟨rfl, rfl⟩

theorem aluForm_encodesTo (y z : Nat) (hy : y < 8) (hz : z < 8) :
    (Form.done (aluForm y (regOf z))).encodesTo [opcode 2 y z] := by
  obtain ⟨r, hr, rfl⟩ | ⟨hr, rfl⟩ := regOf_cases z hz <;>
    · rw [hr]
      interval_cases y <;> exact fun _ _ => ⟨rfl, rfl⟩

/-- Quadrant 3 is such a table too, with the four places that select a page left empty. -/
theorem mainX3_encodesTo (y z : Nat) (hy : y < 8) (hz : z < 8) (form : Form)
    (hrow : mainX3 y z (y / 2) (y % 2) = some form) : form.encodesTo [opcode 3 y z] := by
  interval_cases z <;> interval_cases y <;> cases hrow <;> exact fun _ _ => ⟨rfl, rfl⟩

theorem mainForm_encodesTo (op : Byte) (form : Form) (hrow : mainForm op = some form) : form.encodesTo [op] := by
  obtain ⟨x, y, z, hx, hy, hz, hop, hX, hY, hZ, hP, hQ⟩ := eq_opcode_fields op
  rw [mainForm, hX, hY, hZ, hP, hQ] at hrow
  rw [hop]
  interval_cases x
  · obtain rfl := Option.some.inj hrow
    exact mainX0_encodesTo y z hy hz
  · obtain rfl := Option.some.inj hrow
    exact mainX1_encodesTo y z hy hz
  · obtain rfl := Option.some.inj hrow
    exact aluForm_encodesTo y z hy hz
  · exact mainX3_encodesTo y z hy hz form hrow

/-- The bit number of a CB row is its field `y`. -/
theorem ofNat_three_toNat (y : Nat) (hy : y < 8) : (BitVec.ofNat 3 y).toNat = y := by
  rw [BitVec.toNat_ofNat]
  exact Nat.mod_eq_of_lt hy

theorem rotForm_encodesTo (y z : Nat) (hy : y < 8) (hz : z < 8) (i : Instr) (hrow : rotForm y (regOf z) = some i) :
    (Form.done i).encodesTo [0xCB, opcode 0 y z] := by
  obtain ⟨r, hr, rfl⟩ | ⟨hr, rfl⟩ := regOf_cases z hz <;>
    · rw [hr] at hrow
      interval_cases y <;> cases hrow <;> exact fun _ _ => ⟨rfl, rfl⟩

theorem cbForm_encodesTo (op : Byte) (form : Form) (hrow : cbForm op = some form) : form.encodesTo [0xCB, op] := by
  obtain ⟨x, y, z, hx, hy, hz, hop, hX, hY, hZ, -⟩ := eq_opcode_fields op
  rw [cbForm, hX, hY, hZ] at hrow
  rw [hop]
  interval_cases x
  · obtain ⟨i, hi, rfl⟩ := Option.map_eq_some_iff.1 hrow
    exact rotForm_encodesTo y z hy hz i hi
  all_goals
    obtain rfl := Option.some.inj hrow
    obtain ⟨r, hr, rfl⟩ | ⟨hr, rfl⟩ := regOf_cases z hz <;>
      · rw [hr]
        exact fun _ _ => ⟨rfl, by simp [Form.instr, Form.operand, encode, ofNat_three_toNat y hy]⟩

theorem eq_op_of_toNat {v : Byte} {k : Nat} (h : v.toNat = k) : v = op k := by
  rw [← h, op_toNat]

theorem edForm_encodesTo (op : Byte) (form : Form) (hrow : edForm op = some form) : form.encodesTo [0xED, op] := by
  unfold edForm at hrow
  split at hrow <;> cases hrow <;>
    · obtain rfl := eq_op_of_toNat ‹_›
      exact fun _ _ => ⟨rfl, rfl⟩

theorem ddForm_encodesTo (op : Byte) (form : Form) (hrow : ddForm op = some form) : form.encodesTo [0xDD, op] := by
  unfold ddForm at hrow
  split at hrow <;> cases hrow <;>
    · obtain rfl := eq_op_of_toNat ‹_›
      exact fun _ _ => ⟨rfl, rfl⟩

theorem fdForm_encodesTo (op : Byte) (form : Form) (hrow : fdForm op = some form) : form.encodesTo [0xFD, op] := by
  unfold fdForm at hrow
  split at hrow <;> cases hrow <;>
    · obtain rfl := eq_op_of_toNat ‹_›
      exact fun _ _ => ⟨rfl, rfl⟩

/-- The rows of each of the four pages encode to the byte that selects the page and their own opcode byte (R102). -/
theorem page_encodesTo (b0 b1 : Byte) (page : Byte → Option Form) (form : Form) (hpage : pageOf b0 = some page)
    (hrow : page b1 = some form) : form.encodesTo [b0, b1] := by
  unfold pageOf at hpage
  split at hpage <;> cases hpage <;> obtain rfl := eq_op_of_toNat ‹_›
  · exact cbForm_encodesTo b1 form hrow
  · exact edForm_encodesTo b1 form hrow
  · exact ddForm_encodesTo b1 form hrow
  · exact fdForm_encodesTo b1 form hrow

theorem rowOf_encodesTo {key : List Byte} {form : Form} (hrow : rowOf key = some form) : form.encodesTo key := by
  unfold rowOf at hrow
  split at hrow
  · split at hrow
    · cases hrow
    · exact mainForm_encodesTo _ form hrow
  · obtain ⟨page, hpage, hform⟩ := Option.bind_eq_some_iff.1 hrow
    exact page_encodesTo _ _ page form hpage hform
  · cases hrow

/-- Settles O2: what decodes is the instruction of a row with its operand, and it encodes to the row's bytes. -/
theorem decodedBytesAreItsEncoding : Obligations.DecodedBytesAreItsEncoding := by
  intro bytes i rest h
  obtain ⟨key, form, n, nn, hrow, rfl, rfl⟩ := (decode_eq_ok_iff bytes rest i).1 h
  obtain ⟨hwf, hencode⟩ := rowOf_encodesTo hrow n nn
  exact ⟨hwf, by rw [hencode]⟩

/-! ## Every well-formed instruction has a row -/

/-- The instruction is that of a row, with some operand. -/
def Instr.hasRow (i : Instr) : Prop := ∃ key form n nn, rowOf key = some form ∧ i = form.instr n nn

/-- The opcode bytes of an instruction: one, or two on a page of its own (R92). -/
def Instr.opcodeKey (i : Instr) : List Byte := (encode i).take i.opcodeBytes

theorem hasRow_of_done {i : Instr} (h : rowOf i.opcodeKey = some (.done i)) : i.hasRow :=
  ⟨_, _, 0, 0, h, rfl⟩

theorem hasRow_of_takesByte {mk : Byte → Instr} {n : Byte} (h : rowOf (mk n).opcodeKey = some (.takesByte mk)) :
    (mk n).hasRow :=
  ⟨_, _, n, 0, h, rfl⟩

theorem hasRow_of_takesWord {mk : Word → Instr} {nn : Word} (h : rowOf (mk nn).opcodeKey = some (.takesWord mk)) :
    (mk nn).hasRow :=
  ⟨_, _, 0, nn, h, rfl⟩

/-- The eight targets of `RST` (45_stack_calls.md R245). -/
theorem rstTarget_cases (p : Byte) (hp : isRstTarget p = true) : ∃ y < 8, p = op (8 * y) := by
  revert p
  decide

theorem bitNumber_cases (b : BitVec 3) : ∃ k < 8, b = BitVec.ofNat 3 k :=
  ⟨b.toNat, b.isLt, by simp⟩

theorem WellFormed.hasRow {i : Instr} (hwf : WellFormed i) : i.hasRow := by
  cases i with
  | ldRR dst src => cases dst <;> cases src <;> exact hasRow_of_done rfl
  | ldRHl r | ldHlR r | addR r | adcR r | subR r | sbcR r | andR r | xorR r | orR r | cpR r | incR r | decR r
  | rlcR r | rrcR r | rlR r | rrR r | slaR r | sraR r | srlR r => cases r <;> exact hasRow_of_done rfl
  | addHlSs k | incSs k | decSs k | pushQq k | popQq k | retCc k => cases k <;> exact hasRow_of_done rfl
  | bitR b r | resR b r | setR b r =>
    obtain ⟨k, hk, rfl⟩ := bitNumber_cases b
    cases r <;> interval_cases k <;> exact hasRow_of_done rfl
  | bitHl b | resHl b | setHl b =>
    obtain ⟨k, hk, rfl⟩ := bitNumber_cases b
    interval_cases k <;> exact hasRow_of_done rfl
  | rst p =>
    obtain ⟨y, hy, rfl⟩ := rstTarget_cases p hwf
    interval_cases y <;> exact hasRow_of_done rfl
  | ldRN r n => cases r <;> exact hasRow_of_takesByte rfl
  | jrCc cc d =>
    cases cc with
    | nz | z | nc | c => exact hasRow_of_takesByte rfl
    | po | pe | p | m => cases hwf
  | ldHlN n | jr n | djnz n | addN n | adcN n | subN n | sbcN n | andN n | xorN n | orN n | cpN n | inAN n | outNA n =>
    exact hasRow_of_takesByte rfl
  | ldDdNn k nn | jpCcNn k nn | callCcNn k nn => cases k <;> exact hasRow_of_takesWord rfl
  | ldIxNn nn | ldIyNn nn | ldANn nn | ldNnA nn | ldHlNn nn | ldNnHl nn | jpNn nn | callNn nn =>
    exact hasRow_of_takesWord rfl
  | _ => exact hasRow_of_done rfl

/-- Settles O1: a well-formed instruction is that of a row, so its bytes are the row's, and they decode to it. -/
theorem decodeOfEncodeIsTheInstruction : Obligations.DecodeOfEncodeIsTheInstruction := by
  intro i hwf rest
  obtain ⟨key, form, n, nn, hrow, rfl⟩ := hwf.hasRow
  obtain ⟨-, hencode⟩ := rowOf_encodesTo hrow n nn
  exact (decode_eq_ok_iff _ _ _).2 ⟨key, form, n, nn, hrow, rfl, by rw [hencode]⟩

/-- The bytes of a well-formed instruction decode to it. -/
theorem decodesTo_of_encode {bytes : List Byte} {i : Instr} (hbytes : encode i = bytes) (hwf : WellFormed i) :
    decodesTo bytes i :=
  hbytes ▸ decodeOfEncodeIsTheInstruction i hwf

/-- Settles O4: each sample is the encoding of its instruction. -/
theorem sampleBytesDecode : Obligations.SampleBytesDecode := by
  and_intros <;> exact decodesTo_of_encode rfl rfl

end Sys2Proof
end

section
/-! SUPPORT. The step on what the decoder answers (30_encoding.md R91, R101; 60_exceptions.md R321). -/

namespace Sys2Proof.Machine

open Sys2Proof.Claim

/-! ## The unrecognised encodings -/

/-- The list of the obligation, named so that it can be compared with the pages (30_encoding.md R101). -/
def unrecognisedPair (b0 b1 : Byte) : Bool :=
  (b0 == 0xCB && decide (0x30 ≤ b1.toNat ∧ b1.toNat ≤ 0x37)) ||
  (b0 == 0xED && !([0x45, 0x46, 0x47, 0x4D, 0x4F, 0x56, 0x57, 0x5E, 0x5F, 0xB0, 0xB8] : List Byte).contains b1) ||
  ((b0 == 0xDD || b0 == 0xFD) && !([0x21, 0xE1, 0xE5] : List Byte).contains b1)

theorem cbForm_isNone (b : Byte) : (cbForm b).isNone = decide (0x30 ≤ b.toNat ∧ b.toNat ≤ 0x37) := by
  revert b
  decide

theorem edForm_isNone (b : Byte) : (edForm b).isNone =
    !([0x45, 0x46, 0x47, 0x4D, 0x4F, 0x56, 0x57, 0x5E, 0x5F, 0xB0, 0xB8] : List Byte).contains b := by
  revert b
  decide

theorem ddForm_isNone (b : Byte) : (ddForm b).isNone = !([0x21, 0xE1, 0xE5] : List Byte).contains b := by
  revert b
  decide

theorem fdForm_isNone (b : Byte) : (fdForm b).isNone = !([0x21, 0xE1, 0xE5] : List Byte).contains b := by
  revert b
  decide

/-- A byte that selects no page has a row on the main page. -/
theorem mainForm_isSome_of_no_page (b : Byte) (hpage : (pageOf b).isNone = true) : (mainForm b).isSome = true := by
  revert b
  decide

/-- Two bytes are on the list when the first selects a page that has no row for the second. -/
theorem unrecognisedPair_eq (b0 b1 : Byte) :
    unrecognisedPair b0 b1 = (pageOf b0).any fun page => (page b1).isNone := by
  unfold pageOf
  split
  case h_5 hCB hED hDD hFD =>
    have hne (v : Byte) (hv : b0.toNat = v.toNat → False) : b0 ≠ v := fun heq => hv (congrArg _ heq)
    simp [unrecognisedPair, hne 0xCB#8 hCB, hne 0xED#8 hED, hne 0xDD#8 hDD, hne 0xFD#8 hFD]
  all_goals
    obtain rfl := eq_op_of_toNat ‹_›
    simp [unrecognisedPair, op, cbForm_isNone, edForm_isNone, ddForm_isNone, fdForm_isNone]

/-- Such a pair is refused for its two bytes. -/
theorem decode_of_unrecognisedPair (b0 b1 : Byte) (rest : List Byte) (h : unrecognisedPair b0 b1 = true) :
    decode (b0 :: b1 :: rest) = .error (.unrecognised [b0, b1]) := by
  rw [unrecognisedPair_eq, Option.any_eq_true] at h
  obtain ⟨page, hpage, hnone⟩ := h
  simp [decode, hpage, Option.isNone_iff_eq_none.1 hnone]

/-- Any other two bytes begin with the opcode bytes of a row. -/
theorem exists_row_of_not_unrecognisedPair (b0 b1 : Byte) (h : unrecognisedPair b0 b1 = false) :
    ∃ form, rowOf [b0] = some form ∨ rowOf [b0, b1] = some form := by
  rw [unrecognisedPair_eq] at h
  cases hpage : pageOf b0 with
  | none =>
    obtain ⟨form, hform⟩ := Option.isSome_iff_exists.1 (mainForm_isSome_of_no_page b0 (by rw [hpage]; rfl))
    exact ⟨form, .inl (by simp [rowOf, hpage, hform])⟩
  | some page =>
    rw [hpage, Option.any_some, Option.isNone_eq_false_iff, Option.isSome_iff_exists] at h
    obtain ⟨form, hform⟩ := h
    exact ⟨form, .inr (by simp [rowOf, hpage, hform])⟩

theorem decode_ok_of_not_unrecognisedPair (b0 b1 b2 b3 : Byte) (rest : List Byte) (h : unrecognisedPair b0 b1 = false) :
    ∃ i rest', decode (b0 :: b1 :: b2 :: b3 :: rest) = .ok (i, rest') := by
  obtain ⟨form, hrow | hrow⟩ := exists_row_of_not_unrecognisedPair b0 b1 h
  · obtain ⟨i, rest', hfinish⟩ := form.finish_two_bytes [b0] b1 b2 (b3 :: rest)
    exact ⟨i, rest', (decode_of_row hrow _).trans hfinish⟩
  · obtain ⟨i, rest', hfinish⟩ := form.finish_two_bytes [b0, b1] b2 b3 rest
    exact ⟨i, rest', (decode_of_row hrow _).trans hfinish⟩

/-! ## What the step does with the decoder's answer -/

theorem machineStep_of_instruction (s : State) (i : Instr) (htrap : s.trapArmed = false) (hfault : s.cpu.fault = none)
    (hhalted : s.cpu.halted = false) (hi : s.decodeNext = .ok i) : machineStep s = exec i (s.fetched i) := by
  simp [machineStep, cpuStep, htrap, hfault, hhalted, hi]

theorem machineStep_of_decode_error (s : State) (e : DecodeError) (htrap : s.trapArmed = false)
    (hfault : s.cpu.fault = none) (hhalted : s.cpu.halted = false) (he : s.decodeNext = .error e) :
    machineStep s = .next (s.raiseUnrecognised e.key) := by
  simp [machineStep, cpuStep, htrap, hfault, hhalted, he]

theorem stepNotices_of_decode_error (s : State) (e : DecodeError) (htrap : s.trapArmed = false)
    (hfault : s.cpu.fault = none) (hhalted : s.cpu.halted = false) (he : s.decodeNext = .error e) :
    stepNotices s = [.unrecognised { addr := s.cpu.pc, bytes := e.key }] := by
  simp [stepNotices, htrap, hfault, hhalted, he]

theorem State.decodeNext_of_unrecognisedPair (s : State)
    (h : unrecognisedPair (s.memRead s.cpu.pc) (s.memRead (s.cpu.pc + 1)) = true) :
    s.decodeNext = .error (.unrecognised [s.memRead s.cpu.pc, s.memRead (s.cpu.pc + 1)]) := by
  rw [State.decodeNext, State.window, decode_of_unrecognisedPair _ _ _ h]

/-- Settles O3: the list by the pages that have no row, the step and the notice by the decoder's error. -/
theorem unrecognisedEncodingsAreTheListedOnesAndFault : Obligations.UnrecognisedEncodingsAreTheListedOnesAndFault := by
  refine ⟨decode_of_unrecognisedPair, decode_ok_of_not_unrecognisedPair, fun s hfault hhalted htrap hlisted => ?_⟩
  have hdecode := s.decodeNext_of_unrecognisedPair hlisted
  exact ⟨machineStep_of_decode_error s _ htrap hfault hhalted hdecode,
    stepNotices_of_decode_error s _ htrap hfault hhalted hdecode⟩

/-- The trap is armed when the tape plays and `PC` is the trap address, unless the fault latch is set (60_exceptions.md
R353). -/
theorem State.trapArmed_eq_false (s : State) (h : ¬ (s.tape.playing = true ∧ s.cpu.pc = s.cfg.ldBytesEntry)) :
    s.trapArmed = false := by
  simpa [State.trapArmed] using fun _ hplaying hpc => h ⟨hplaying, hpc⟩

/-- Settles O5: the step runs the instruction in the fetched state, which `State.fetched_eq` writes out. -/
theorem stepRunsTheDecodedInstruction : Obligations.StepRunsTheDecodedInstruction := by
  intro s i rest hfault hhalted htrap hdecode
  have hi : s.decodeNext = .ok i := by rw [State.decodeNext, State.window, hdecode]
  rw [step, machineStep_of_instruction s i (s.trapArmed_eq_false htrap) hfault hhalted hi, State.fetched_eq]
  cases s.cfg.rPolicy <;> rfl

end Sys2Proof.Machine
end

section
/-! SUPPORT. Loads and exchanges (40_loads.md): the bytes of a row with a word operand, the halves of a pair load, and
what a store at one address leaves; then the loads, stores and exchanges of the family. -/

namespace Sys2Proof.Machine

open Sys2Proof.Claim

/-! ## A word operand in the instruction's bytes -/

/-- A row with a word operand takes the low byte first (30_encoding.md R95). -/
theorem decodesTo_word_operand {key : List Byte} {mk : Word → Instr}
    (hencode : ∀ nn, encode (mk nn) = key ++ [loByte nn, hiByte nn]) (hwf : ∀ nn, WellFormed (mk nn)) (lo hi : Byte) :
    decodesTo (key ++ [lo, hi]) (mk (mkWord hi lo)) :=
  decodesTo_of_encode (by rw [hencode, loByte_mkWord, hiByte_mkWord]) (hwf _)

/-! ## Pairs from their halves (10_state.md R21) -/

@[simp] theorem Cpu.setBc_mkWord (c : Cpu) (hi lo : Byte) : c.setBc (mkWord hi lo) = { c with b := hi, c := lo } := by
  rw [Cpu.setBc, hiByte_mkWord, loByte_mkWord]

@[simp] theorem Cpu.setDe_mkWord (c : Cpu) (hi lo : Byte) : c.setDe (mkWord hi lo) = { c with d := hi, e := lo } := by
  rw [Cpu.setDe, hiByte_mkWord, loByte_mkWord]

@[simp] theorem Cpu.setHl_mkWord (c : Cpu) (hi lo : Byte) : c.setHl (mkWord hi lo) = { c with h := hi, l := lo } := by
  rw [Cpu.setHl, hiByte_mkWord, loByte_mkWord]

@[simp] theorem hiByte_hl (c : Cpu) : hiByte c.hl = c.h := hiByte_mkWord _ _

@[simp] theorem loByte_hl (c : Cpu) : loByte c.hl = c.l := loByte_mkWord _ _

@[simp] theorem Cpu.setReg_reg (c : Cpu) (r : Reg) : c.setReg r (c.reg r) = c := by
  cases r <;> rfl

/-! ## Stores -/

/-- One `MemWrite` and the cost are a store (20_memory.md R63). -/
theorem stores_of_memWrite {i : Instr} {s : State} {x : Word} {v : Byte} {cost : CostTable → Nat} {n : Nat}
    (hm : s.mem.wf) (hexec : exec i s = .next ((s.memWrite x v).charge (cost s.cfg.cost))) (hcost : costs cost n) :
    stores i s x v s.cpu cost n :=
  ⟨hcost, _, hexec, storedOne_write s hm x v⟩

/-- `LD (nn),HL` stores `L`, then `H` (40_loads.md R133). -/
theorem exec_ldNnHl (nn : Word) (s : State) :
    exec (.ldNnHl nn) s =
      .next { s with mem := (s.mem.write nn s.cpu.l).write (nn + 1) s.cpu.h, cpu := after s s.cpu (·.ldNnHl) } := by
  rw [exec, execLdNnHl, State.memWrite16, loByte_hl, hiByte_hl]
  rfl

/-- Settles O20: the bytes are the encodings; each store is one `MemWrite`, that of `HL` two at different addresses. (In a
namespace of its own, so as not to shadow `Claim.stores`.) -/
theorem Loads.stores : Obligations.Stores := by
  refine ⟨fun r => decodesTo_of_encode rfl rfl, fun n => decodesTo_of_encode rfl rfl, decodesTo_of_encode rfl rfl,
    decodesTo_of_encode rfl rfl, decodesTo_word_operand (key := [0x32]) (fun _ => rfl) fun _ => rfl,
    decodesTo_word_operand (key := [0x22]) (fun _ => rfl) fun _ => rfl, fun s hm => ?_⟩
  exact ⟨fun r => stores_of_memWrite hm rfl rfl, fun n => stores_of_memWrite hm rfl rfl,
    stores_of_memWrite hm rfl rfl, stores_of_memWrite hm rfl rfl,
    fun nn => ⟨stores_of_memWrite hm rfl rfl, rfl, _, exec_ldNnHl nn s,
      storedTwo_write_write s hm nn (nn + 1) _ _ (Word.self_ne_add_one nn)⟩⟩

/-! ## Loads -/

/-- The pair load in terms of the pair's write (40_loads.md R120). -/
theorem yields_ldDdNn (dd : RegPair) (nn : Word) (s : State) :
    yields (.ldDdNn dd nn) s (s.cpu.setPair dd nn) (·.ldDdNn) 10 := ⟨rfl, rfl⟩

/-- Settles O17: the bytes are the encodings, low byte first; a pair load writes the pair's halves. -/
theorem immediateWordLoads : Obligations.ImmediateWordLoads := by
  intro lo hi
  refine ⟨fun dd => ?_, decodesTo_word_operand (key := [0xDD, 0x21]) (fun _ => rfl) (fun _ => rfl) lo hi,
    decodesTo_word_operand (key := [0xFD, 0x21]) (fun _ => rfl) (fun _ => rfl) lo hi, mkWord_toNat hi lo, fun s => ?_⟩
  · exact decodesTo_word_operand (key := [op (1 + 16 * dd.index)]) (mk := .ldDdNn dd)
      (fun _ => by cases dd <;> rfl) (fun _ => rfl) lo hi
  · refine ⟨?_, ?_, ?_, yields_ldDdNn .sp _ s, ⟨rfl, rfl⟩, ⟨rfl, rfl⟩⟩
    · simpa [Cpu.setPair] using yields_ldDdNn .bc (mkWord hi lo) s
    · simpa [Cpu.setPair] using yields_ldDdNn .de (mkWord hi lo) s
    · simpa [Cpu.setPair] using yields_ldDdNn .hl (mkWord hi lo) s

/-- The register move in terms of the register's write (40_loads.md R121). -/
theorem yields_ldRR (dst r : Reg) (s : State) :
    yields (.ldRR dst r) s (s.cpu.setReg dst (s.cpu.reg r)) (·.ldRR) 4 := ⟨rfl, rfl⟩

/-- Settles O18: a register's own value written back leaves the CPU as it was. -/
theorem registerMoves : Obligations.RegisterMoves := by
  refine ⟨fun dst r => decodesTo_of_encode rfl rfl, fun dst n => decodesTo_of_encode ?_ rfl,
    fun s => ⟨fun dst r => yields_ldRR dst r s, fun r => ?_, fun dst n => ⟨rfl, rfl⟩⟩⟩
  · cases dst <;> rfl
  · simpa using yields_ldRR r r s

/-- Settles O19: the loads by their meaning; `HL` is loaded from its two halves. -/
theorem loadsFromMemory : Obligations.LoadsFromMemory := by
  refine ⟨fun dst => decodesTo_of_encode ?_ rfl, decodesTo_of_encode rfl rfl, decodesTo_of_encode rfl rfl,
    fun lo hi => ⟨decodesTo_word_operand (key := [0x3A]) (fun _ => rfl) (fun _ => rfl) lo hi,
      decodesTo_word_operand (key := [0x2A]) (fun _ => rfl) (fun _ => rfl) lo hi⟩,
    fun s => ⟨fun dst => ⟨rfl, rfl⟩, ⟨rfl, rfl⟩, ⟨rfl, rfl⟩, fun nn => ⟨⟨rfl, rfl⟩, ?_, rfl⟩⟩⟩
  · cases dst <;> rfl
  · rw [exec, execLdHlNn, State.memRead16, Cpu.setHl_mkWord]
    rfl

/-! ## Exchanges -/

/-- `EX DE,HL` register by register (40_loads.md R140). -/
theorem yields_exDeHl (s : State) :
    yields .exDeHl s { s.cpu with d := s.cpu.h, e := s.cpu.l, h := s.cpu.d, l := s.cpu.e } (·.exDeHl) 4 := by
  refine ⟨?_, rfl⟩
  rw [exec, execExDeHl, Cpu.hl, Cpu.de, Cpu.setDe_mkWord, Cpu.setHl_mkWord]
  rfl

/-- Settles O21: each exchange by its meaning; run on its own result it puts every register back. -/
theorem registerExchanges : Obligations.RegisterExchanges := by
  refine ⟨decodesTo_of_encode rfl rfl, decodesTo_of_encode rfl rfl, decodesTo_of_encode rfl rfl,
    decodesTo_of_encode rfl rfl, fun s => ⟨⟨rfl, rfl⟩, yields_exDeHl s, ⟨rfl, rfl⟩, ⟨rfl, rfl⟩, ?_⟩⟩
  simp only [List.forall_mem_cons]
  exact ⟨⟨_, _, (yields_exDeHl s).1, (yields_exDeHl _).1⟩, ⟨_, _, rfl, rfl⟩, ⟨_, _, rfl, rfl⟩, by simp⟩

end Sys2Proof.Machine
end

section
/-! SUPPORT. Jumps (41_jumps.md): the target of a displacement, the model's condition as the flag bit it tests, and what a
conditional jump does on each outcome; then the relative and the absolute jumps. -/

namespace Sys2Proof.Machine

open Sys2Proof.Claim

/-! ## Targets and conditions -/

/-- A displacement is added as a signed number, modulo 65536 (41_jumps.md R150). -/
theorem Word.add_sext8 (pc : Word) (d : Byte) : pc + sext8 d = BitVec.ofInt 16 (pc.toNat + d.toInt) := by
  rw [sext8, BitVec.signExtend, BitVec.ofInt_add, BitVec.ofInt_natCast, BitVec.ofNat_toNat, BitVec.setWidth_eq]

theorem condHolds_eq_condTrue (f : Byte) (cc : Cond) : condHolds f cc = condTrue f cc := by
  cases cc <;> rfl

/-! ## Relative jumps -/

theorem yields_jr (s : State) (e : Byte) :
    yields (.jr e) s { s.cpu with pc := BitVec.ofInt 16 (s.cpu.pc.toNat + e.toInt) } (·.jr) 12 := by
  rw [← Word.add_sext8]
  exact ⟨rfl, rfl⟩

theorem yields_jrCc_taken {s : State} {cc : Cond} (e : Byte) (h : condTrue s.cpu.f cc = true) :
    yields (.jrCc cc e) s { s.cpu with pc := BitVec.ofInt 16 (s.cpu.pc.toNat + e.toInt) } (·.jrCc) 12 := by
  rw [← Word.add_sext8]
  exact ⟨if_pos ((condHolds_eq_condTrue _ _).trans h), rfl⟩

theorem yields_jrCc_notTaken {s : State} {cc : Cond} (e : Byte) (h : ¬ condTrue s.cpu.f cc = true) :
    yields (.jrCc cc e) s s.cpu (·.jrCcNotTaken) 7 :=
  ⟨if_neg (condHolds_eq_condTrue _ _ ▸ h), rfl⟩

/-- `DJNZ` tests the decremented `B`, which is 0 when `B` was 1 (41_jumps.md R152). -/
theorem yields_djnz_taken {s : State} (e : Byte) (h : s.cpu.b ≠ 1) :
    yields (.djnz e) s { s.cpu with b := s.cpu.b - 1, pc := BitVec.ofInt 16 (s.cpu.pc.toNat + e.toInt) } (·.djnz) 13 := by
  rw [← Word.add_sext8]
  exact ⟨if_pos (sub_ne_zero.2 h), rfl⟩

theorem yields_djnz_notTaken {s : State} (e : Byte) (h : s.cpu.b = 1) :
    yields (.djnz e) s { s.cpu with b := s.cpu.b - 1 } (·.djnzNotTaken) 8 :=
  ⟨if_neg (not_not_intro (sub_eq_zero.2 h)), rfl⟩

/-- Settles O22: the bytes are the encodings; a jump with two outcomes is split by its test. -/
theorem relativeJumps : Obligations.RelativeJumps := by
  refine ⟨fun e => decodesTo_of_encode rfl rfl, fun e => decodesTo_of_encode rfl rfl, fun e => ?_, fun s e => ?_⟩
  · and_intros <;> exact decodesTo_of_encode rfl rfl
  · refine ⟨yields_jr s e, fun cc => ?_, ?_⟩
    · by_cases h : condTrue s.cpu.f cc = true
      · simpa only [if_pos h] using yields_jrCc_taken e h
      · simpa only [if_neg h] using yields_jrCc_notTaken e h
    · by_cases h : s.cpu.b = 1
      · simpa only [if_pos h] using yields_djnz_notTaken e h
      · simpa only [if_neg h] using yields_djnz_taken e h

/-! ## Absolute jumps -/

/-- Both outcomes cost the same (41_jumps.md R154). -/
theorem yields_jpCcNn (s : State) (cc : Cond) (nn : Word) :
    yields (.jpCcNn cc nn) s { s.cpu with pc := if condTrue s.cpu.f cc then nn else s.cpu.pc } (·.jpCcNn) 10 := by
  refine ⟨?_, rfl⟩
  rw [exec, execJpCcNn, condHolds_eq_condTrue]
  split <;> rfl

/-- Settles O23: the bytes are the encodings, low byte first; the jumps by their meaning. -/
theorem absoluteJumps : Obligations.AbsoluteJumps := by
  refine ⟨fun lo hi => ⟨decodesTo_word_operand (key := [0xC3]) (fun _ => rfl) (fun _ => rfl) lo hi, fun cc => ?_⟩,
    decodesTo_of_encode rfl rfl,
    fun s => ⟨fun nn => ⟨⟨rfl, rfl⟩, fun cc => yields_jpCcNn s cc nn⟩, ⟨rfl, rfl⟩⟩⟩
  exact decodesTo_word_operand (key := [op (194 + 8 * cc.index)]) (mk := .jpCcNn cc)
    (fun _ => by cases cc <;> rfl) (fun _ => rfl) lo hi

end Sys2Proof.Machine
end

section
/-! SUPPORT. 8-bit arithmetic, logic and accumulator rotates (42_alu8.md): what each helper of the model computes, on
unsigned and signed values, and which instruction runs which helper; then the statements of the family. -/

namespace Sys2Proof.Machine

open Sys2Proof.Claim

/-! ## Bits of a byte -/

theorem getLsbD_zero_eq (v : Byte) : v.getLsbD 0 = decide (v.toNat % 2 = 1) := by
  rw [BitVec.getLsbD, Nat.testBit_zero]

theorem getLsbD_seven_eq (v : Byte) : v.getLsbD 7 = decide (128 ≤ v.toNat) :=
  BitVec.msb_eq_decide v


theorem toInt_eq_toNat_sub (v : Byte) : v.toInt = v.toNat - if 128 ≤ v.toNat then 256 else 0 := by
  rw [BitVec.toInt_eq_toNat_cond]
  split <;> split <;> omega

theorem beq_eq_decide_toNat (v w : Byte) : (v == w) = decide (v.toNat = w.toNat) := by
  rw [beq_eq_decide]
  exact decide_eq_decide.2 BitVec.toNat_inj.symm

/-- The model's parity is that of the number of 1 bits (00_scope.md R7). -/
theorem parityEven_eq (v : Byte) : parityEven v = decide (popcount v % 2 = 0) := by
  revert v
  decide

/-! ## Flags of a result (10_state.md R29) -/

theorem resultBits_resultFlags (res : Byte) (h pv n c : Bool) : resultBits res (resultFlags res h pv n c) :=
  ⟨(flagS_resultFlags ..).trans (getLsbD_seven_eq res), (flagZ_resultFlags ..).trans (beq_eq_decide_toNat res 0),
    flagY_resultFlags .., flagX_resultFlags ..⟩

theorem logicalFlags_logicFlags (res : Byte) (h : Bool) : logicalFlags res (logicFlags res h) h :=
  ⟨resultBits_resultFlags .., flagH_resultFlags .., (flagPV_resultFlags ..).trans (parityEven_eq res),
    flagN_resultFlags .., flagC_resultFlags ..⟩

/-! ## Addition and subtraction (10_state.md R29) -/

theorem carryIn_eq_toNat (c : Bool) : carryIn c = c.toNat := by
  cases c <;> rfl

theorem carryIn_le_one (c : Bool) : carryIn c ≤ 1 :=
  (carryIn_eq_toNat c).trans_le c.toNat_le

/-- A sum overflows when its sign is that of neither operand. -/
theorem add_overflow (a b res : Byte) (k : Nat) (hk : k ≤ 1) (hres : res.toNat = (a.toNat + b.toNat + k) % 256) :
    ((a ^^^ res) &&& (b ^^^ res)).getLsbD 7 =
      decide (a.toInt + b.toInt + k < -128 ∨ 127 < a.toInt + b.toInt + k) := by
  rw [BitVec.getLsbD_and, BitVec.getLsbD_xor, BitVec.getLsbD_xor, Bool.eq_iff_iff]
  simp only [getLsbD_seven_eq, toInt_eq_toNat_sub, hres, Bool.and_eq_true, bne_iff_ne, ne_eq, decide_eq_decide,
    decide_eq_true_iff]
  split <;> split <;> omega

/-- A difference overflows when the operands' signs differ and its own is not the first operand's (decision D16). -/
theorem sub_overflow (a b res : Byte) (k : Nat) (hk : k ≤ 1)
    (hres : res.toNat = (256 + a.toNat - b.toNat - k) % 256) :
    ((a ^^^ b) &&& (a ^^^ res)).getLsbD 7 =
      decide (a.toInt - b.toInt - k < -128 ∨ 127 < a.toInt - b.toInt - k) := by
  rw [BitVec.getLsbD_and, BitVec.getLsbD_xor, BitVec.getLsbD_xor, Bool.eq_iff_iff]
  simp only [getLsbD_seven_eq, toInt_eq_toNat_sub, hres, Bool.and_eq_true, bne_iff_ne, ne_eq, decide_eq_decide,
    decide_eq_true_iff]
  split <;> split <;> omega

/-- `Add8` is integer addition. -/
theorem addition_add8 (a b : Byte) (cin : Bool) : addition a b cin (add8 a b cin).1 (add8 a b cin).2 := by
  have hsum : (add8 a b cin).1.toNat = (a.toNat + b.toNat + carryIn cin) % 256 := BitVec.toNat_ofNat ..
  exact ⟨hsum, resultBits_resultFlags .., flagH_resultFlags ..,
    (flagPV_resultFlags ..).trans (add_overflow a b _ _ (carryIn_le_one cin) hsum),
    flagN_resultFlags .., flagC_resultFlags ..⟩

theorem sub8_fst_toNat (a b : Byte) (cin : Bool) :
    (sub8 a b cin).1.toNat = (256 + a.toNat - b.toNat - carryIn cin) % 256 := by
  have hk := carryIn_le_one cin
  rw [sub8, BitVec.toNat_ofInt]
  omega

theorem decide_borrow (a b k : Nat) : decide ((a : Int) - b - k < 0) = decide (a < b + k) :=
  decide_eq_decide.2 (by omega)

/-- `Sub8` is integer subtraction. -/
theorem subtraction_sub8 (a b : Byte) (cin : Bool) : subtraction a b cin (sub8 a b cin).1 (sub8 a b cin).2 :=
  ⟨sub8_fst_toNat a b cin, resultBits_resultFlags ..,
    (flagH_resultFlags ..).trans (decide_borrow (a.toNat % 16) (b.toNat % 16) (carryIn cin)),
    (flagPV_resultFlags ..).trans (sub_overflow a b _ _ (carryIn_le_one cin) (sub8_fst_toNat a b cin)),
    flagN_resultFlags .., (flagC_resultFlags ..).trans (decide_borrow a.toNat b.toNat (carryIn cin))⟩

/-! ## The source forms of an accumulator operation (42_alu8.md R170 to R178) -/

/-- Three instructions have the bytes of row `y` of `alu[]`, run `out` on `A`, their operand and C, with the costs of
`accumulatorRule`. Each field holds by the definitions of `encode`, `exec` and the default costs. -/
structure AccumulatorForms (y : Nat) (onReg : Reg → Instr) (onHl : Instr) (onImm : Byte → Instr)
    (cr cm ci : CostTable → Nat) (out : Byte → Byte → Bool → Byte × Byte) : Prop where
  bytes_reg : ∀ r, encode (onReg r) = [op (128 + 8 * y + r.index)]
  bytes_hl : encode onHl = [op (128 + 8 * y + 6)]
  bytes_imm : ∀ n, encode (onImm n) = [op (192 + 8 * y + 6), n]
  wf_reg : ∀ r, WellFormed (onReg r)
  wf_hl : WellFormed onHl
  wf_imm : ∀ n, WellFormed (onImm n)
  exec_reg : ∀ (s : State) r,
    exec (onReg r) s = .next ((s.setAF (out s.cpu.a (s.cpu.reg r) (flagC s.cpu.f))).charge (cr s.cfg.cost))
  exec_hl : ∀ s : State,
    exec onHl s = .next ((s.setAF (out s.cpu.a s.readHl (flagC s.cpu.f))).charge (cm s.cfg.cost))
  exec_imm : ∀ (s : State) n,
    exec (onImm n) s = .next ((s.setAF (out s.cpu.a n (flagC s.cpu.f))).charge (ci s.cfg.cost))
  costs_reg : costs cr 4
  costs_hl : costs cm 7
  costs_imm : costs ci 7

theorem AccumulatorForms.rule {y : Nat} {onReg : Reg → Instr} {onHl : Instr} {onImm : Byte → Instr}
    {cr cm ci : CostTable → Nat} {out : Byte → Byte → Bool → Byte × Byte}
    {rel : Byte → Byte → Bool → Byte → Byte → Prop} (forms : AccumulatorForms y onReg onHl onImm cr cm ci out)
    (hrel : ∀ a v c, rel a v c (out a v c).1 (out a v c).2) :
    accumulatorRule y onReg onHl onImm cr cm ci rel :=
  ⟨fun r => decodesTo_of_encode (forms.bytes_reg r) (forms.wf_reg r), decodesTo_of_encode forms.bytes_hl forms.wf_hl,
    fun n => decodesTo_of_encode (forms.bytes_imm n) (forms.wf_imm n),
    fun s => ⟨fun r => ⟨_, _, hrel .., forms.exec_reg s r, forms.costs_reg⟩,
      ⟨_, _, hrel .., forms.exec_hl s, forms.costs_hl⟩, fun n => ⟨_, _, hrel .., forms.exec_imm s n, forms.costs_imm⟩⟩⟩

/-- Settles O24: ADD runs `Add8` without carry, ADC with C. -/
theorem additionToTheAccumulator : Obligations.AdditionToTheAccumulator := by
  refine ⟨AccumulatorForms.rule (out := fun a v _ => add8 a v false) ?_ fun a v _ => addition_add8 a v false,
    AccumulatorForms.rule (out := add8) ?_ addition_add8⟩
  all_goals constructor <;> intros <;> rfl

/-- Settles O25: SUB runs `Sub8` without borrow, SBC with C; CP does as SUB, but with `A` itself for the result. -/
theorem subtractionAndComparison : Obligations.SubtractionAndComparison := by
  refine ⟨AccumulatorForms.rule (out := fun a v _ => sub8 a v false) ?_ fun a v _ => subtraction_sub8 a v false,
    AccumulatorForms.rule (out := sub8) ?_ subtraction_sub8,
    AccumulatorForms.rule (out := fun a v _ => (a, (sub8 a v false).2)) ?_
      fun a v _ => ⟨rfl, _, subtraction_sub8 a v false⟩⟩
  all_goals constructor <;> intros <;> rfl

/-- Settles O26: the operations act on each bit, and their flags are those of `Logic`. -/
theorem logicOperations : Obligations.LogicOperations := by
  refine ⟨AccumulatorForms.rule (out := fun a v _ => and8 a v) ?_
      fun _ _ _ => ⟨fun _ => BitVec.getLsbD_and, logicalFlags_logicFlags ..⟩,
    AccumulatorForms.rule (out := fun a v _ => xor8 a v) ?_
      fun _ _ _ => ⟨fun _ => BitVec.getLsbD_xor, logicalFlags_logicFlags ..⟩,
    AccumulatorForms.rule (out := fun a v _ => or8 a v) ?_
      fun _ _ _ => ⟨fun _ => BitVec.getLsbD_or, logicalFlags_logicFlags ..⟩⟩
  all_goals constructor <;> intros <;> rfl

/-! ## Increment and decrement (R181, R182) -/

/-- Two instructions that run `out` on an operand and `F` and write the operand back, the one at `HL` by a store. -/
theorem modifyRule_of_exec {onReg : Reg → Instr} {onHl : Instr} {cr cm : CostTable → Nat} {nr nm : Nat}
    {rel : Byte → Byte → Byte → Byte → Prop} (out : Byte → Byte → Byte × Byte)
    (hreg : ∀ (s : State) r, exec (onReg r) s =
      .next ((s.withCpu { s.cpu.setReg r (out (s.cpu.reg r) s.cpu.f).1 with
        f := (out (s.cpu.reg r) s.cpu.f).2 }).charge (cr s.cfg.cost)))
    (hhl : ∀ s : State, exec onHl s =
      .next (((s.writeHl (out s.readHl s.cpu.f).1).setF (out s.readHl s.cpu.f).2).charge (cm s.cfg.cost)))
    (hcr : costs cr nr) (hcm : costs cm nm) (hrel : ∀ v f, rel v f (out v f).1 (out v f).2) :
    modifyRule onReg onHl cr nr cm nm rel :=
  fun s hm => ⟨fun r => ⟨_, _, hrel .., hreg s r, hcr⟩,
    ⟨_, _, hrel .., hcm, _, hhl s, storedOne_write s hm s.cpu.hl _⟩⟩

/-- Settles O27: the operations add 1 and 255 modulo 256, and the store at `HL` obeys ROM protection. -/
theorem incrementAndDecrement : Obligations.IncrementAndDecrement := by
  refine ⟨fun r => decodesTo_of_encode ?_ rfl, decodesTo_of_encode rfl rfl, fun r => decodesTo_of_encode ?_ rfl,
    decodesTo_of_encode rfl rfl, modifyRule_of_exec inc8 (fun _ _ => rfl) (fun _ => rfl) rfl rfl fun v f => ?_,
    modifyRule_of_exec dec8 (fun _ _ => rfl) (fun _ => rfl) rfl rfl fun v f => ?_⟩
  · cases r <;> rfl
  · cases r <;> rfl
  · exact ⟨BitVec.toNat_add .., resultBits_resultFlags .., flagH_resultFlags ..,
      (flagPV_resultFlags ..).trans (beq_eq_decide_toNat v 0x7F), flagN_resultFlags .., flagC_resultFlags ..⟩
  · have hdec : (dec8 v f).1.toNat = (v.toNat + 255) % 256 := by
      rw [dec8, BitVec.toNat_sub, BitVec.toNat_ofNat]
      omega
    exact ⟨hdec, resultBits_resultFlags .., flagH_resultFlags ..,
      (flagPV_resultFlags ..).trans (beq_eq_decide_toNat v 0x80), flagN_resultFlags .., flagC_resultFlags ..⟩

/-! ## Decimal adjust (R185) -/

/-- DAA on the numbers: `res` and `g` from `a` and the flags of `f`. -/
def decimalAdjusted (a f res g : Byte) : Prop :=
  let low := flagH f || decide (9 < a.toNat % 16)
  let high := flagC f || decide (0x99 < a.toNat)
  let corr := (if low then 6 else 0) + (if high then 0x60 else 0)
  res.toNat = (if flagN f then (256 + a.toNat - corr) % 256 else (a.toNat + corr) % 256) ∧ resultBits res g ∧
    flagH g = (if flagN f then flagH f && decide (a.toNat % 16 < 6) else decide (9 < a.toNat % 16)) ∧
    flagPV g = decide (popcount res % 2 = 0) ∧ flagN g = flagN f ∧ flagC g = high

/-- The two corrections have no bit in common. -/
theorem correction_toNat (low high : Bool) :
    ((if low then 0x06#8 else 0#8) ||| (if high then 0x60#8 else 0#8)).toNat =
      (if low then 6 else 0) + (if high then 0x60 else 0) := by
  cases low <;> cases high <;> rfl

theorem decimalAdjusted_daa8 (a f : Byte) : decimalAdjusted a f (daa8 a f).1 (daa8 a f).2 := by
  refine ⟨?_, resultBits_resultFlags .., flagH_resultFlags .., (flagPV_resultFlags ..).trans (parityEven_eq _),
    flagN_resultFlags .., flagC_resultFlags ..⟩
  simp only [daa8, apply_ite BitVec.toNat, BitVec.toNat_sub, BitVec.toNat_add, correction_toNat, gt_iff_lt]
  split
  · split <;> split <;> omega
  · rfl

/-- Settles O28: `daa8` adjusts `A` by the flags. -/
theorem decimalAdjust : Obligations.DecimalAdjust :=
  ⟨decodesTo_of_encode rfl rfl, fun s => ⟨_, _, ⟨rfl, rfl⟩, decimalAdjusted_daa8 s.cpu.a s.cpu.f⟩⟩

/-! ## Decimal addition (R172, R185) -/

/-- The number that two decimal digits stand for. -/
def decimalValue (v : Nat) : Nat := 10 * (v / 16) + v % 16

/-- Addition digit by digit: units `u` with carry `c`, tens `t` with carry `d`. -/
theorem exists_decimal_digits (a n k : Nat) (haLow : a % 16 ≤ 9) (haHigh : a / 16 ≤ 9) (hnLow : n % 16 ≤ 9)
    (hnHigh : n / 16 ≤ 9) (hk : k ≤ 1) :
    ∃ t u c d, t ≤ 9 ∧ u ≤ 9 ∧ c ≤ 1 ∧ d ≤ 1 ∧ a % 16 + n % 16 + k = 10 * c + u ∧ a / 16 + n / 16 + c = 10 * d + t := by
  refine ⟨(a / 16 + n / 16 + (a % 16 + n % 16 + k) / 10) % 10, (a % 16 + n % 16 + k) % 10, (a % 16 + n % 16 + k) / 10,
    (a / 16 + n / 16 + (a % 16 + n % 16 + k) / 10) / 10, ?_⟩
  omega

/-- DAA's two tests on a binary sum are the two decimal carries, so its correction leaves the digits of the decimal
sum. -/
theorem daa8_add8 (a n : Byte) (cin : Bool) (haLow : a.toNat % 16 ≤ 9) (haHigh : a.toNat / 16 ≤ 9)
    (hnLow : n.toNat % 16 ≤ 9) (hnHigh : n.toNat / 16 ≤ 9) :
    let sum := decimalValue a.toNat + decimalValue n.toNat + carryIn cin
    let out := daa8 (add8 a n cin).1 (add8 a n cin).2
    decimalValue out.1.toNat = sum % 100 ∧ out.1.toNat % 16 ≤ 9 ∧ flagC out.2 = decide (100 ≤ sum) := by
  intro sum out
  obtain ⟨hsum, -, hH, -, hN, hC⟩ := addition_add8 a n cin
  obtain ⟨hres, -, -, -, -, hcarry⟩ := decimalAdjusted_daa8 (add8 a n cin).1 (add8 a n cin).2
  rw [hN, hH, hC, hsum, ← carryIn] at hres
  rw [hC, hsum, ← carryIn] at hcarry
  obtain ⟨t, u, c, d, ht, hu, hc, hd, hunits, htens⟩ :=
    exists_decimal_digits a.toNat n.toNat (carryIn cin) haLow haHigh hnLow hnHigh (carryIn_le_one cin)
  have hlow : 16 ≤ a.toNat % 16 + n.toNat % 16 + carryIn cin ∨ 9 < (a.toNat + n.toNat + carryIn cin) % 256 % 16 ↔
      c = 1 := by omega
  have hhigh : 256 ≤ a.toNat + n.toNat + carryIn cin ∨ 0x99 < (a.toNat + n.toNat + carryIn cin) % 256 ↔ d = 1 := by
    omega
  have hdecimal : sum = 100 * d + 10 * t + u := by
    simp only [sum, decimalValue]
    omega
  simp only [← Bool.decide_or, hlow, hhigh, decide_eq_true_iff, Bool.false_eq_true, if_false] at hres hcarry
  have hdigits : out.1.toNat = 16 * t + u := by
    rw [hres]
    split_ifs <;> omega
  refine ⟨?_, ?_, hcarry.trans (decide_eq_decide.2 ?_)⟩
  · rw [decimalValue, hdigits]
    omega
  · omega
  · omega

/-- Settles O29: the sum of ADC, adjusted by its own flags, is the decimal sum. -/
theorem decimalAdjustCorrectsAnAddition : Obligations.DecimalAdjustCorrectsAnAddition :=
  fun s n haLow haHigh hnLow hnHigh =>
    ⟨_, _, rfl, rfl, daa8_add8 s.cpu.a n (flagC s.cpu.f) haLow haHigh hnLow hnHigh⟩

/-! ## Complement and carry flag (R186 to R188) -/

/-- Settles O30: the flags are those of the rule that the three share. -/
theorem complementAndCarryFlag : Obligations.ComplementAndCarryFlag := by
  refine ⟨decodesTo_of_encode rfl rfl, decodesTo_of_encode rfl rfl, decodesTo_of_encode rfl rfl, fun s => ?_⟩
  refine ⟨⟨_, _, ⟨rfl, rfl⟩, BitVec.toNat_not, ?_⟩, ⟨_, ⟨rfl, rfl⟩, ?_⟩, ⟨_, ⟨rfl, rfl⟩, ?_⟩⟩
  all_goals simp

/-! ## Accumulator rotates (R189 to R193) -/

theorem shiftInLeft_toNat (v : Byte) (b : Bool) : (shiftInLeft v b).toNat = 2 * v.toNat % 256 + carryIn b := by
  rw [shiftInLeft, carryIn_eq_toNat, BitVec.toNat_concat, BitVec.extractLsb'_toNat, Nat.shiftRight_zero]
  omega

theorem shiftInRight_toNat (v : Byte) (b : Bool) : (shiftInRight b v).toNat = v.toNat / 2 + 128 * carryIn b := by
  rw [shiftInRight, carryIn_eq_toNat, BitVec.toNat_cons', BitVec.extractLsb'_toNat, Nat.shiftRight_eq_div_pow, pow_one,
    Nat.shiftLeft_eq]
  omega

/-- Bit 7 as a number: what moving left shifts out. -/
theorem getLsbD_seven_eq_div (v : Byte) : v.getLsbD 7 = decide (v.toNat / 128 = 1) :=
  (getLsbD_seven_eq v).trans (decide_eq_decide.2 (by omega))

theorem carryIn_getLsbD_zero (v : Byte) : carryIn (v.getLsbD 0) = v.toNat % 2 := by
  rw [carryIn, getLsbD_zero_eq]
  simp only [decide_eq_true_iff]
  split <;> omega

theorem carryIn_getLsbD_seven (v : Byte) : carryIn (v.getLsbD 7) = v.toNat / 128 := by
  rw [carryIn, getLsbD_seven_eq]
  simp only [decide_eq_true_iff]
  split <;> omega

/-- The rule of `Obligations.AccumulatorRotates` for one rotate. -/
def accumulatorRotate (i : Instr) (code : Byte) (t : CostTable → Nat) (res : Nat → Nat → Nat)
    (out : Nat → Nat) : Prop :=
  decodesTo [code] i ∧
    ∀ s : State, ∃ w f, yields i s { s.cpu with a := w, f := f } t 4 ∧
      w.toNat = res s.cpu.a.toNat (if flagC s.cpu.f then 1 else 0) ∧ flagC f = decide (out s.cpu.a.toNat = 1) ∧
      flagH f = false ∧ flagN f = false ∧ flagY f = w.getLsbD 5 ∧ flagX f = w.getLsbD 3 ∧
      flagS f = flagS s.cpu.f ∧ flagZ f = flagZ s.cpu.f ∧ flagPV f = flagPV s.cpu.f

/-- One instruction that rotates `A` by `rot` with the flag rule of R189. -/
theorem accumulatorRotate_of_exec {i : Instr} {code : Byte} {t : CostTable → Nat} {res : Nat → Nat → Nat}
    {out : Nat → Nat} (rot : Byte → Bool → Byte × Bool) (hbytes : encode i = [code]) (hwf : WellFormed i)
    (hexec : ∀ s : State, exec i s = .next ((s.rotateA (rot s.cpu.a (flagC s.cpu.f))).charge (t s.cfg.cost)))
    (hcost : costs t 4) (hres : ∀ v c, (rot v c).1.toNat = res v.toNat (if c then 1 else 0))
    (hout : ∀ v c, (rot v c).2 = decide (out v.toNat = 1)) : accumulatorRotate i code t res out :=
  ⟨decodesTo_of_encode hbytes hwf, fun s => ⟨_, _, ⟨hexec s, hcost⟩, hres .., (flagC_accFlags ..).trans (hout ..),
    flagH_accFlags .., flagN_accFlags .., flagY_accFlags .., flagX_accFlags .., flagS_accFlags .., flagZ_accFlags ..,
    flagPV_accFlags ..⟩⟩

/-- Settles O31: the rotates move `A` by one place and shift in its own outer bit or C. -/
theorem accumulatorRotates : Obligations.AccumulatorRotates := by
  unfold Obligations.AccumulatorRotates
  intro rule
  rw [show rule = accumulatorRotate from rfl]
  refine ⟨accumulatorRotate_of_exec (fun v _ => rlc8 v) rfl rfl (fun _ => rfl) rfl (fun v _ => ?_) fun v _ => ?_,
    accumulatorRotate_of_exec (fun v _ => rrc8 v) rfl rfl (fun _ => rfl) rfl (fun v _ => ?_) fun v _ => ?_,
    accumulatorRotate_of_exec rl8 rfl rfl (fun _ => rfl) rfl (fun v c => ?_) fun v _ => ?_,
    accumulatorRotate_of_exec rr8 rfl rfl (fun _ => rfl) rfl (fun v c => ?_) fun v _ => ?_⟩
  · rw [rlc8, shiftInLeft_toNat, carryIn_getLsbD_seven]
  · exact getLsbD_seven_eq_div v
  · rw [rrc8, shiftInRight_toNat, carryIn_getLsbD_zero]
  · exact getLsbD_zero_eq v
  · exact shiftInLeft_toNat v c
  · exact getLsbD_seven_eq_div v
  · exact shiftInRight_toNat v c
  · exact getLsbD_zero_eq v

end Sys2Proof.Machine
end

section
/-! SUPPORT. 16-bit arithmetic (43_alu16.md): what `add16` computes on unsigned values, and what each of the three
instructions yields; then the statement of the family. -/

namespace Sys2Proof.Machine

open Sys2Proof.Claim

/-- `ADD HL,ss` on the numbers (43_alu16.md R210): `res` and `g` from the two words and the flags of `f`. -/
def wordAddition (a b : Nat) (f : Byte) (res : Word) (g : Byte) : Prop :=
  res.toNat = (a + b) % 65536 ∧ flagC g = decide (65536 ≤ a + b) ∧ flagH g = decide (4096 ≤ a % 4096 + b % 4096) ∧
    flagN g = false ∧ flagY g = res.getLsbD 13 ∧ flagX g = res.getLsbD 11 ∧
    flagS g = flagS f ∧ flagZ g = flagZ f ∧ flagPV g = flagPV f

/-- The model's carries out of bits 15 and 11 are the numbers' carries. -/
theorem wordAddition_add16 (a b : Word) (f : Byte) :
    wordAddition a.toNat b.toNat f (add16 a b f).1 (add16 a b f).2 :=
  ⟨BitVec.toNat_ofNat .., flagC_packFlags .., flagH_packFlags .., flagN_packFlags .., flagY_packFlags ..,
    flagX_packFlags .., flagS_packFlags .., flagZ_packFlags .., flagPV_packFlags ..⟩

theorem yields_addHlSs (ss : RegPair) (s : State) :
    yields (.addHlSs ss) s
      { s.cpu.setHl (add16 s.cpu.hl (s.cpu.pair ss) s.cpu.f).1 with f := (add16 s.cpu.hl (s.cpu.pair ss) s.cpu.f).2 }
      (·.addHlSs) 11 := ⟨rfl, rfl⟩

theorem yields_incSs (ss : RegPair) (s : State) :
    yields (.incSs ss) s (s.cpu.setPair ss (s.cpu.pair ss + 1)) (·.incSs) 6 := ⟨rfl, rfl⟩

theorem yields_decSs (ss : RegPair) (s : State) :
    yields (.decSs ss) s (s.cpu.setPair ss (s.cpu.pair ss - 1)) (·.decSs) 6 := ⟨rfl, rfl⟩

/-- Settles O32: `add16` adds the numbers with carries out of bits 15 and 11; INC and DEC write the pair alone. -/
theorem wordArithmetic : Obligations.WordArithmetic := by
  refine ⟨fun ss => ⟨decodesTo_of_encode ?_ rfl, decodesTo_of_encode ?_ rfl, decodesTo_of_encode ?_ rfl⟩, fun s ss =>
    ⟨⟨_, _, yields_addHlSs ss s, wordAddition_add16 s.cpu.hl (s.cpu.pair ss) s.cpu.f⟩, yields_incSs ss s,
      yields_decSs ss s⟩⟩
  all_goals cases ss <;> rfl

end Sys2Proof.Machine
end

section
/-! SUPPORT. Block moves (44_block.md): one iteration of LDIR and of LDDR, said once, and what it leaves in the pairs and
in memory; then the run of an LDIR over a whole block, by induction on its length. -/

namespace Sys2Proof.Machine

open Sys2Proof.Claim

/-! ## One iteration (R221, R222) -/

/-- One iteration after its fetch: the byte at `HL` to `DE`, the pairs moved, and `PC` back at the ED byte while `more` bytes
remain. -/
def State.blockIteration (s : State) (delta : Word) (more pv : Bool) (t : CostTable → Nat) : State :=
  { s with
    mem := s.mem.write s.cpu.de (s.memRead s.cpu.hl)
    cpu := after s { ((s.cpu.setHl (s.cpu.hl + delta)).setDe (s.cpu.de + delta)).setBc (s.cpu.bc - 1) with
      f := blockFlags s.cpu.f pv, pc := if more then s.cpu.pc - 2 else s.cpu.pc } t }

/-- Bytes remain after the decrement unless `BC` was 1. -/
theorem State.blockMove_bc_bne_zero (s : State) (delta : Word) :
    ((s.blockMove delta).cpu.bc != 0) = decide (s.cpu.bc ≠ 1) := by
  rw [show (s.blockMove delta).cpu.bc = s.cpu.bc - 1 from mkWord_hi_lo _, Bool.eq_iff_iff, bne_iff_ne, decide_eq_true_iff]
  exact sub_ne_zero

/-- The two outcomes LDIR and LDDR share: the repeating one at the cost `t`, the last one at `tLast`. -/
theorem State.blockMove_outcome (s : State) (delta : Word) (pv : Bool) (t tLast : CostTable → Nat) :
    let s1 := s.blockMove delta
    let s2 := s1.withCpu { s1.cpu with f := blockFlags s1.cpu.f pv }
    (if s2.cpu.bc ≠ 0 then .next ((s2.setPc (s2.cpu.pc - 2)).charge (t s.cfg.cost))
      else .next (s2.charge (tLast s.cfg.cost)) : Result) =
      .next (s.blockIteration delta (decide (s.cpu.bc ≠ 1)) pv (if decide (s.cpu.bc ≠ 1) then t else tLast)) := by
  rw [← s.blockMove_bc_bne_zero delta]
  cases hmore : (s.blockMove delta).cpu.bc != 0 with
  | true => exact if_pos (bne_iff_ne.1 hmore)
  | false => exact if_neg (not_not_intro (bne_eq_false_iff_eq.1 hmore))

theorem exec_ldir (s : State) :
    exec .ldir s = .next (s.blockIteration 1 (decide (s.cpu.bc ≠ 1)) false
      (if decide (s.cpu.bc ≠ 1) then (·.ldir) else (·.ldirLast))) :=
  s.blockMove_outcome 1 false (·.ldir) (·.ldirLast)

theorem exec_lddr (s : State) :
    exec .lddr s = .next (s.blockIteration 0xFFFF (decide (s.cpu.bc ≠ 1)) (decide (s.cpu.bc ≠ 1))
      (if decide (s.cpu.bc ≠ 1) then (·.lddr) else (·.lddrLast))) :=
  (s.blockMove_outcome 0xFFFF ((s.blockMove 0xFFFF).cpu.bc != 0) (·.lddr) (·.lddrLast)).trans
    (by rw [State.blockMove_bc_bne_zero])

/-- The cost of an instruction with two outcomes. -/
theorem costs_ite {t u : CostTable → Nat} {m n : Nat} (taken : Bool) (ht : costs t m) (hu : costs u n) :
    costs (if taken then t else u) (if taken then m else n) := by
  cases taken
  · exact hu
  · exact ht

/-- Settles O33: both instructions are `State.blockIteration`, one store and the flags of `blockFlags`. -/
theorem blockMoveIteration : Obligations.BlockMoveIteration := by
  refine ⟨decodesTo_of_encode rfl rfl, decodesTo_of_encode rfl rfl, fun i s hi hm => ?_⟩
  intro delta more t
  have hcost : costs t (if more then 21 else 16) := by
    obtain rfl | rfl := hi
    · exact costs_ite more rfl rfl
    · exact costs_ite more rfl rfl
  have hexec : exec i s = .next (s.blockIteration delta more (decide (i = .lddr) && more) t) := by
    obtain rfl | rfl := hi
    · exact exec_ldir s
    · exact exec_lddr s
  exact ⟨hcost, _, _, hexec, storedOne_write s hm _ _, flagH_blockFlags _ _, flagN_blockFlags _ _, flagPV_blockFlags _ _,
    flagS_blockFlags _ _, flagZ_blockFlags _ _, flagY_blockFlags _ _, flagX_blockFlags _ _, flagC_blockFlags _ _⟩

/-! ## The run of an LDIR (R221) -/

/-- The CPU is at an LDIR about to copy `n` bytes to RAM: nothing wraps, and neither the source nor the instruction's own
bytes are in the destination. -/
structure AtLdir (s : State) (n : Nat) : Prop where
  wf : s.mem.wf
  fault : s.cpu.fault = none
  halted : s.cpu.halted = false
  playing : s.tape.playing = false
  prefixByte : s.memRead s.cpu.pc = 0xED
  opcodeByte : s.memRead (s.cpu.pc + 1) = 0xB0
  count : n = s.cpu.bc.toNat
  pos : 0 < n
  source : s.cpu.hl.toNat + n ≤ 65536
  ram : 16384 ≤ s.cpu.de.toNat
  dest : s.cpu.de.toNat + n ≤ 65536
  disjoint : s.cpu.hl.toNat + n ≤ s.cpu.de.toNat ∨ s.cpu.de.toNat + n ≤ s.cpu.hl.toNat
  prefixKept : s.cpu.pc.toNat < s.cpu.de.toNat ∨ s.cpu.de.toNat + n ≤ s.cpu.pc.toNat
  opcodeKept : (s.cpu.pc + 1).toNat < s.cpu.de.toNat ∨ s.cpu.de.toNat + n ≤ (s.cpu.pc + 1).toNat

/-- What `y` reads as once `n` bytes are copied from `HL` to `DE`. -/
def State.copiedByte (s : State) (n : Nat) (y : Word) : Byte :=
  if s.cpu.de.toNat ≤ y.toNat ∧ y.toNat < s.cpu.de.toNat + n then s.memRead (s.cpu.hl + (y - s.cpu.de)) else s.memRead y

/-- `t` is `s` after an LDIR has copied `n` bytes. -/
structure CopiedBlock (s : State) (n : Nat) (t : State) : Prop where
  bc : t.cpu.bc = 0
  hl : t.cpu.hl = s.cpu.hl + BitVec.ofNat 16 n
  de : t.cpu.de = s.cpu.de + BitVec.ofNat 16 n
  pc : t.cpu.pc = s.cpu.pc + 2
  tstates : t.cpu.tstates = s.cpu.tstates + s.cfg.cost.ldir * (n - 1) + s.cfg.cost.ldirLast
  a : t.cpu.a = s.cpu.a
  sp : t.cpu.sp = s.cpu.sp
  flagPV : flagPV t.cpu.f = false
  mem : ∀ y, t.memRead y = s.copiedByte n y

/-- One whole step at an LDIR: the fetch and one iteration. -/
def State.ldirStep (s : State) : State :=
  (s.fetched .ldir).blockIteration 1 (decide (s.cpu.bc ≠ 1)) false
    (if decide (s.cpu.bc ≠ 1) then (·.ldir) else (·.ldirLast))

/-! ### The fields after one step -/

@[simp] theorem State.ldirStep_bc (s : State) : s.ldirStep.cpu.bc = s.cpu.bc - 1 := by
  rw [State.ldirStep, State.fetched_eq]
  exact mkWord_hi_lo _

@[simp] theorem State.ldirStep_hl (s : State) : s.ldirStep.cpu.hl = s.cpu.hl + 1 := by
  rw [State.ldirStep, State.fetched_eq]
  exact mkWord_hi_lo _

@[simp] theorem State.ldirStep_de (s : State) : s.ldirStep.cpu.de = s.cpu.de + 1 := by
  rw [State.ldirStep, State.fetched_eq]
  exact mkWord_hi_lo _

theorem State.ldirStep_pc (s : State) :
    s.ldirStep.cpu.pc = if decide (s.cpu.bc ≠ 1) then s.cpu.pc else s.cpu.pc + 2 := by
  rw [State.ldirStep, State.fetched_eq]
  cases hmore : decide (s.cpu.bc ≠ 1) with
  | true => exact add_sub_cancel_right s.cpu.pc 2
  | false => rfl

theorem State.ldirStep_tstates (s : State) :
    s.ldirStep.cpu.tstates =
      s.cpu.tstates + if decide (s.cpu.bc ≠ 1) then s.cfg.cost.ldir else s.cfg.cost.ldirLast := by
  rw [State.ldirStep, State.fetched_eq]
  cases decide (s.cpu.bc ≠ 1) <;> rfl

@[simp] theorem State.ldirStep_flagPV (s : State) : flagPV s.ldirStep.cpu.f = false := flagPV_blockFlags _ _

@[simp] theorem State.ldirStep_a (s : State) : s.ldirStep.cpu.a = s.cpu.a := by
  rw [State.ldirStep, State.fetched_eq]
  rfl

@[simp] theorem State.ldirStep_sp (s : State) : s.ldirStep.cpu.sp = s.cpu.sp := by
  rw [State.ldirStep, State.fetched_eq]
  rfl

@[simp] theorem State.ldirStep_fault (s : State) : s.ldirStep.cpu.fault = s.cpu.fault := by
  rw [State.ldirStep, State.fetched_eq]
  rfl

@[simp] theorem State.ldirStep_halted (s : State) : s.ldirStep.cpu.halted = s.cpu.halted := by
  rw [State.ldirStep, State.fetched_eq]
  rfl

@[simp] theorem State.ldirStep_tape (s : State) : s.ldirStep.tape = s.tape := s.fetched_tape .ldir

@[simp] theorem State.ldirStep_cfg (s : State) : s.ldirStep.cfg = s.cfg := s.fetched_cfg .ldir

theorem State.ldirStep_mem (s : State) : s.ldirStep.mem = s.mem.write s.cpu.de (s.memRead s.cpu.hl) := by
  rw [State.ldirStep, State.fetched_eq]
  rfl

/-! ### One step at an LDIR -/

theorem run_succ_of_step {M : Host.Core} {s s' : M.State} (h : M.step s = .next s') (k : Nat) :
    M.run (k + 1) s = M.run k s' := by
  rw [Host.Core.run, h]

namespace AtLdir

theorem step_eq {s : State} {n : Nat} (h : AtLdir s n) : step s = .next s.ldirStep := by
  have hdecode : s.decodeNext = .ok .ldir := by
    rw [State.decodeNext, State.window, h.prefixByte, h.opcodeByte]
    rfl
  rw [step, machineStep_of_instruction s .ldir (s.trapArmed_eq_false (by simp [h.playing])) h.fault h.halted hdecode,
    exec_ldir, State.ldirStep, State.fetched_eq]
  rfl

/-- The step copies its one byte alone. -/
theorem memRead_ldirStep {s : State} {n : Nat} (h : AtLdir s n) (y : Word) :
    s.ldirStep.memRead y = if y = s.cpu.de then s.memRead s.cpu.hl else s.memRead y := by
  rw [State.memRead_eq, State.ldirStep_mem, Memory.read_write s.mem h.wf]
  simp [romSize, h.ram, State.memRead_eq]

theorem memRead_ldirStep_of_ne {s : State} {n : Nat} (h : AtLdir s n) {y : Word} (hy : y.toNat ≠ s.cpu.de.toNat) :
    s.ldirStep.memRead y = s.memRead y := by
  rw [h.memRead_ldirStep, if_neg fun heq => hy (congrArg _ heq)]

/-- `BC` is 1 at the last byte, and there alone. -/
theorem bc_eq_one_iff {s : State} {n : Nat} (h : AtLdir s n) : s.cpu.bc = 1 ↔ n = 1 := by
  rw [h.count, BitVec.toNat_eq]
  rfl

/-- With bytes left after this step, the CPU is at the same LDIR, with one byte less to copy. -/
theorem after_ldirStep {s : State} {k : Nat} (h : AtLdir s (k + 1)) (hk : 0 < k) : AtLdir s.ldirStep k := by
  obtain ⟨hwf, hfault, hhalted, hplaying, hprefix, hopcode, hcount, -, hsource, hram, hdest, hdisjoint, hprefixKept,
    hopcodeKept⟩ := id h
  have hpc : s.ldirStep.cpu.pc = s.cpu.pc := by
    rw [State.ldirStep_pc, if_pos (decide_eq_true (mt h.bc_eq_one_iff.1 (by omega)))]
  have hhl : (s.cpu.hl + 1).toNat = s.cpu.hl.toNat + 1 := by bv_omega
  have hde : (s.cpu.de + 1).toNat = s.cpu.de.toNat + 1 := by bv_omega
  exact
    { wf := by rw [State.ldirStep_mem]; exact Memory.wf_write _ hwf _ _
      fault := s.ldirStep_fault.trans hfault
      halted := s.ldirStep_halted.trans hhalted
      playing := by rw [State.ldirStep_tape, hplaying]
      prefixByte := by rw [hpc, h.memRead_ldirStep_of_ne (by omega), hprefix]
      opcodeByte := by rw [hpc, h.memRead_ldirStep_of_ne (by omega), hopcode]
      count := by rw [State.ldirStep_bc]; bv_omega
      pos := hk
      source := by rw [State.ldirStep_hl]; omega
      ram := by rw [State.ldirStep_de]; omega
      dest := by rw [State.ldirStep_de]; omega
      disjoint := by rw [State.ldirStep_hl, State.ldirStep_de]; omega
      prefixKept := by rw [hpc, State.ldirStep_de]; omega
      opcodeKept := by rw [hpc, State.ldirStep_de]; omega }

/-- A step that copies the last byte copies a block of one byte. -/
theorem copiedBlock_one {s : State} (h : AtLdir s 1) : CopiedBlock s 1 s.ldirStep := by
  have hbc : s.cpu.bc = 1 := h.bc_eq_one_iff.2 rfl
  constructor
  case mem =>
    intro y
    rw [h.memRead_ldirStep, State.copiedByte]
    by_cases hy : y = s.cpu.de
    · simp [hy]
    · rw [if_neg hy, if_neg (by bv_omega)]
  all_goals simp [hbc, State.ldirStep_pc, State.ldirStep_tstates]

/-- Copying the other `k` bytes after this step leaves what copying all `k + 1` does: no source byte has changed. -/
theorem copiedByte_ldirStep {s : State} {k : Nat} (h : AtLdir s (k + 1)) (hk : 0 < k) (y : Word) :
    s.ldirStep.copiedByte k y = s.copiedByte (k + 1) y := by
  have hdest := h.dest
  have hde : (s.cpu.de + 1).toNat = s.cpu.de.toNat + 1 := by bv_omega
  rw [State.copiedByte, State.copiedByte, State.ldirStep_de, State.ldirStep_hl, hde]
  by_cases hfirst : y = s.cpu.de
  · subst hfirst
    rw [if_neg (by omega), if_pos (by omega), h.memRead_ldirStep, if_pos rfl, sub_self, add_zero]
  have hne : y.toNat ≠ s.cpu.de.toNat := fun heq => hfirst (BitVec.eq_of_toNat_eq heq)
  by_cases hrest : s.cpu.de.toNat + 1 ≤ y.toNat ∧ y.toNat < s.cpu.de.toNat + 1 + k
  · have hsource : (s.cpu.hl + (y - s.cpu.de)).toNat = s.cpu.hl.toNat + (y.toNat - s.cpu.de.toNat) := by
      have := h.source
      bv_omega
    have hdisjoint := h.disjoint
    rw [if_pos hrest, if_pos (by omega), add_assoc, add_comm 1, sub_add_eq_sub_sub, sub_add_cancel,
      h.memRead_ldirStep_of_ne (by omega)]
  · rw [if_neg hrest, if_neg (by omega), h.memRead_ldirStep_of_ne hne]

/-- A step and then the copy of the other `k` bytes copies `k + 1` bytes. -/
theorem copiedBlock_succ {s t : State} {k : Nat} (h : AtLdir s (k + 1)) (hk : 0 < k)
    (ht : CopiedBlock s.ldirStep k t) : CopiedBlock s (k + 1) t := by
  have hcount : (1 : Word) + BitVec.ofNat 16 k = BitVec.ofNat 16 (k + 1) := by rw [add_comm]; bv_omega
  have hbc : decide (s.cpu.bc ≠ 1) = true := decide_eq_true (mt h.bc_eq_one_iff.1 (by omega))
  exact
    { bc := ht.bc
      hl := by rw [ht.hl, State.ldirStep_hl, add_assoc, hcount]
      de := by rw [ht.de, State.ldirStep_de, add_assoc, hcount]
      pc := by rw [ht.pc, State.ldirStep_pc, if_pos hbc]
      tstates := by
        rw [ht.tstates, State.ldirStep_tstates, State.ldirStep_cfg, if_pos hbc, Nat.add_sub_cancel,
          Nat.add_assoc s.cpu.tstates, Nat.add_comm s.cfg.cost.ldir, ← Nat.mul_add_one, Nat.sub_add_cancel hk]
      a := ht.a.trans s.ldirStep_a
      sp := ht.sp.trans s.ldirStep_sp
      flagPV := ht.flagPV
      mem := fun y => (ht.mem y).trans (h.copiedByte_ldirStep hk y) }

/-- The run, by induction on the number of bytes. -/
theorem run_copiedBlock {n : Nat} {s : State} (h : AtLdir s n) :
    ∃ t, Host.Core.run core n s = .next t ∧ CopiedBlock s n t := by
  induction n generalizing s with
  | zero => exact absurd h.pos (lt_irrefl 0)
  | succ k ih =>
    have hrun : Host.Core.run core (k + 1) s = Host.Core.run core k s.ldirStep := run_succ_of_step h.step_eq k
    rcases Nat.eq_zero_or_pos k with rfl | hk
    · exact ⟨s.ldirStep, hrun, h.copiedBlock_one⟩
    · obtain ⟨t, ht, hcopied⟩ := ih (h.after_ldirStep hk)
      exact ⟨t, hrun.trans ht, h.copiedBlock_succ hk hcopied⟩

end AtLdir

/-- Settles O34: the hypotheses are `AtLdir`, and `AtLdir.run_copiedBlock` gives each field of the final state. -/
theorem ldirCopiesADisjointBlock : Obligations.LdirCopiesADisjointBlock := by
  intro s n hwf hfault hhalted hplaying hprefix hopcode hcount hpos hsource hram hdest hdisjoint hprefixKept hopcodeKept
  obtain ⟨t, hrun, hbc, hhl, hde, hpc, htstates, ha, hsp, hpv, hmem⟩ := AtLdir.run_copiedBlock
    ⟨hwf, hfault, hhalted, hplaying, hprefix, hopcode, hcount, hpos, hsource, hram, hdest, hdisjoint, hprefixKept,
      hopcodeKept⟩
  exact ⟨t, hrun, hbc, hhl, hde, hpc, htstates, ha, hsp, hpv, hmem⟩

end Sys2Proof.Machine
end

section
/-! SUPPORT. Stack, calls and returns (45_stack_calls.md): what a push leaves in memory and at the top of the stack, and
what each instruction of the family does with it. -/

namespace Sys2Proof.Machine

open Sys2Proof.Claim

/-! ## Pushes (45_stack_calls.md R230) -/

theorem Word.sub_one_sub_one (x : Word) : x - 1 - 1 = x - 2 := by
  rw [sub_sub, one_add_one_eq_two]

/-- The two bytes of a push lie at different addresses, so each keeps what was stored in it. -/
theorem storedTwo_push16 (s : State) (hm : s.mem.wf) (v : Word) :
    storedTwo s (s.push16 v).mem (s.cpu.sp - 1) (hiByte v) (s.cpu.sp - 2) (loByte v) := by
  rw [State.push16_mem, Word.sub_one_sub_one]
  refine storedTwo_write_write s hm _ _ _ _ fun h => ?_
  bv_omega

/-- `Push16` and the cost, with a jump in between: PUSH keeps `PC`, CALL and RST take it to their target. -/
theorem pushes_of_push16 {i : Instr} {s : State} {v target : Word} {cost : CostTable → Nat} {n : Nat} (hm : s.mem.wf)
    (hexec : exec i s = .next (((s.push16 v).setPc target).charge (cost s.cfg.cost))) (hcost : costs cost n) :
    pushes i s v { s.cpu with pc := target } cost n := by
  refine ⟨hcost, (s.push16 v).mem, ?_, storedTwo_push16 s hm v⟩
  rw [hexec, ← Word.sub_one_sub_one]
  rfl

/-- Settles O35: the bytes are the encodings; each instruction is one push that leaves `PC`. (In a namespace of its own, so
as not to shadow `Claim.pushes`.) -/
theorem StackCalls.pushes : Obligations.Pushes := by
  refine ⟨fun qq => decodesTo_of_encode ?_ rfl, decodesTo_of_encode rfl rfl, decodesTo_of_encode rfl rfl, fun s hm => ?_⟩
  · cases qq <;> rfl
  · exact ⟨fun qq => pushes_of_push16 (target := s.cpu.pc) hm rfl rfl,
      pushes_of_push16 (target := s.cpu.pc) hm rfl rfl, pushes_of_push16 (target := s.cpu.pc) hm rfl rfl⟩

/-! ## Pops (45_stack_calls.md R231) -/

@[simp] theorem Cpu.setAf_mkWord (c : Cpu) (hi lo : Byte) : c.setAf (mkWord hi lo) = { c with a := hi, f := lo } := by
  rw [Cpu.setAf, hiByte_mkWord, loByte_mkWord]

/-- The pop in terms of the pair's write (45_stack_calls.md R233). -/
theorem yields_popQq (qq : StackPair) (s : State) :
    yields (.popQq qq) s ({ s.cpu with sp := s.cpu.sp + 2 }.setStackPair qq (topWord s)) (·.popQq) 10 := ⟨rfl, rfl⟩

/-- Settles O36: the bytes are the encodings; a pop writes the pair's halves. -/
theorem pops : Obligations.Pops := by
  refine ⟨fun qq => decodesTo_of_encode ?_ rfl, decodesTo_of_encode rfl rfl, decodesTo_of_encode rfl rfl, fun s => ?_⟩
  · cases qq <;> rfl
  · refine ⟨?_, ?_, ?_, ?_, ⟨rfl, rfl⟩, ⟨rfl, rfl⟩⟩
    · simpa [Cpu.setStackPair, topWord] using yields_popQq .bc s
    · simpa [Cpu.setStackPair, topWord] using yields_popQq .de s
    · simpa [Cpu.setStackPair, topWord] using yields_popQq .hl s
    · simpa [Cpu.setStackPair, topWord] using yields_popQq .af s

/-! ## A push, then a pop -/

/-- The word on top of the stack after a push with both bytes in RAM is the word pushed (45_stack_calls.md R230, R231). -/
theorem State.stackTop_push16 (s : State) (hm : s.mem.wf) (hhi : romSize ≤ (s.cpu.sp - 1).toNat)
    (hlo : romSize ≤ (s.cpu.sp - 2).toNat) (v : Word) : (s.push16 v).stackTop = v := by
  have hsp : (s.push16 v).cpu.sp = s.cpu.sp - 2 := Word.sub_one_sub_one _
  have hnext : s.cpu.sp - 2 + 1 = s.cpu.sp - 1 := by ring
  have hne : s.cpu.sp - 1 ≠ s.cpu.sp - 2 := fun h => by bv_omega
  rw [State.stackTop, hsp, hnext, State.memRead_push16 s hm, State.memRead_push16 s hm, Word.sub_one_sub_one,
    if_neg fun h => hne h.1, if_pos ⟨rfl, hhi⟩, if_pos ⟨rfl, hlo⟩, mkWord_hi_lo]

/-- Settles O37: the pop and the return read the word that the push and the call stored, and `SP` goes down and up by 2. -/
theorem stackRoundTrips : Obligations.StackRoundTrips := by
  intro s hm hhi hlo
  have hsp : s.cpu.sp - 1 - 1 + 2 = s.cpu.sp := by ring
  refine ⟨fun p q => ⟨_, _, rfl, rfl, ?_, ?_⟩, fun nn => ⟨_, _, rfl, rfl, rfl, ?_, hsp⟩⟩
  · exact (Cpu.stackPair_setStackPair _ q q _).trans ((if_pos rfl).trans (s.stackTop_push16 hm hhi hlo _))
  · exact (Cpu.setStackPair_sp _ q _).trans hsp
  · exact s.stackTop_push16 hm hhi hlo s.cpu.pc

/-! ## The exchange with the stack top -/

/-- `EX (SP),HL` stores `L`, then `H`, and `HL` receives the bytes that were there (45_stack_calls.md R238). -/
theorem exec_exSpHl (s : State) :
    exec .exSpHl s = .next { s with
      mem := (s.mem.write s.cpu.sp s.cpu.l).write (s.cpu.sp + 1) s.cpu.h
      cpu := after s { s.cpu with l := s.memRead s.cpu.sp, h := s.memRead (s.cpu.sp + 1) } (·.exSpHl) } := by
  rw [exec, execExSpHl, State.memWrite16, State.stackTop, loByte_hl, hiByte_hl, Cpu.setHl_mkWord]
  rfl

/-- Settles O38: the two bytes lie at different addresses. -/
theorem exchangeStackTop : Obligations.ExchangeStackTop :=
  ⟨decodesTo_of_encode rfl rfl, rfl, fun s hm => ⟨_, exec_exSpHl s,
    storedTwo_write_write s hm _ _ _ _ (Word.self_ne_add_one s.cpu.sp)⟩⟩

/-! ## Calls -/

theorem pushes_callCcNn_taken {s : State} {cc : Cond} (hm : s.mem.wf) (nn : Word) (h : condTrue s.cpu.f cc = true) :
    pushes (.callCcNn cc nn) s s.cpu.pc { s.cpu with pc := nn } (·.callCcNn) 17 :=
  pushes_of_push16 hm (if_pos ((condHolds_eq_condTrue _ _).trans h)) rfl

theorem yields_callCcNn_notTaken {s : State} {cc : Cond} (nn : Word) (h : ¬ condTrue s.cpu.f cc = true) :
    yields (.callCcNn cc nn) s s.cpu (·.callCcNnNotTaken) 10 :=
  ⟨if_neg (condHolds_eq_condTrue _ _ ▸ h), rfl⟩

/-- The target of `RST p` is the byte `p` with high byte 0 (45_stack_calls.md R245). -/
theorem pushes_rst {s : State} (hm : s.mem.wf) (p : Byte) :
    pushes (.rst p) s s.cpu.pc { s.cpu with pc := BitVec.ofNat 16 p.toNat } (·.rst) 11 := by
  rw [BitVec.ofNat_toNat]
  exact pushes_of_push16 hm rfl rfl

theorem encode_rst_restart (y : Nat) (hy : y < 8) :
    encode (.rst (op (8 * y))) = [op (199 + 8 * y)] ∧ WellFormed (.rst (op (8 * y))) := by
  decide +revert

/-- Settles O39: the bytes are the encodings, low byte first; each call is one push of `PC` and a jump, a conditional one
split by its condition. -/
theorem calls : Obligations.Calls := by
  refine ⟨fun lo hi => ⟨decodesTo_word_operand (key := [0xCD]) (fun _ => rfl) (fun _ => rfl) lo hi, fun cc => ?_⟩,
    fun y hy => ?_, fun s hm => ⟨fun nn => ⟨pushes_of_push16 hm rfl rfl, fun cc => ?_⟩, pushes_rst hm⟩⟩
  · exact decodesTo_word_operand (key := [op (196 + 8 * cc.index)]) (mk := .callCcNn cc)
      (fun _ => by cases cc <;> rfl) (fun _ => rfl) lo hi
  · obtain ⟨hbytes, hwf⟩ := encode_rst_restart y hy
    exact decodesTo_of_encode hbytes hwf
  · by_cases h : condTrue s.cpu.f cc = true
    · simpa only [if_pos h] using pushes_callCcNn_taken hm nn h
    · simpa only [if_neg h] using yields_callCcNn_notTaken nn h

/-! ## Returns -/

theorem yields_retCc_taken {s : State} {cc : Cond} (h : condTrue s.cpu.f cc = true) :
    yields (.retCc cc) s { s.cpu with pc := topWord s, sp := s.cpu.sp + 2 } (·.retCc) 11 :=
  ⟨if_pos ((condHolds_eq_condTrue _ _).trans h), rfl⟩

theorem yields_retCc_notTaken {s : State} {cc : Cond} (h : ¬ condTrue s.cpu.f cc = true) :
    yields (.retCc cc) s s.cpu (·.retCcNotTaken) 5 :=
  ⟨if_neg (condHolds_eq_condTrue _ _ ▸ h), rfl⟩

/-- Settles O40: the bytes are the encodings; each return is one pop into `PC`, a conditional one split by its
condition. -/
theorem returns : Obligations.Returns := by
  refine ⟨decodesTo_of_encode rfl rfl, fun cc => decodesTo_of_encode ?_ rfl, decodesTo_of_encode rfl rfl,
    decodesTo_of_encode rfl rfl, fun s => ⟨⟨rfl, rfl⟩, fun cc => ?_, ⟨rfl, rfl⟩, ⟨rfl, rfl⟩⟩⟩
  · cases cc <;> rfl
  · by_cases h : condTrue s.cpu.f cc = true
    · simpa only [if_pos h] using yields_retCc_taken h
    · simpa only [if_neg h] using yields_retCc_notTaken h

end Sys2Proof.Machine
end

section
/-! SUPPORT. The CB page (46_bit_rotate.md): what each rotate and shift computes on unsigned values, and what BIT, RES and
SET do to one bit; then the statements of the family. -/

namespace Sys2Proof.Machine

open Sys2Proof.Claim

/-! ## Rotates and shifts on numbers (R261 to R267) -/

theorem rlc8_toNat (v : Byte) : (rlc8 v).1.toNat = 2 * v.toNat % 256 + v.toNat / 128 := by
  rw [rlc8, shiftInLeft_toNat, carryIn_getLsbD_seven]

theorem rrc8_toNat (v : Byte) : (rrc8 v).1.toNat = v.toNat / 2 + 128 * (v.toNat % 2) := by
  rw [rrc8, shiftInRight_toNat, carryIn_getLsbD_zero]

theorem sra8_toNat (v : Byte) : (sra8 v).1.toNat = v.toNat / 2 + 128 * (v.toNat / 128) := by
  rw [sra8, shiftInRight_toNat, carryIn_getLsbD_seven]

/-- The flags of R268, with the bit shifted out in C. -/
theorem rotateFlags_spec (res : Byte) (co : Bool) :
    resultBits res (rotateFlags res co) ∧ flagH (rotateFlags res co) = false ∧
      flagPV (rotateFlags res co) = decide (popcount res % 2 = 0) ∧ flagN (rotateFlags res co) = false ∧
      flagC (rotateFlags res co) = co :=
  ⟨resultBits_resultFlags .., flagH_resultFlags .., (flagPV_resultFlags ..).trans (parityEven_eq res),
    flagN_resultFlags .., flagC_resultFlags ..⟩

/-- Two instructions have the bytes of row `y` of `rot[]` and run `rot` on their operand and C, with the costs of
`rotateRule`. Each field holds by the definitions of `encode`, `exec` and the default costs. -/
structure RotateForms (y : Nat) (onReg : Reg → Instr) (onHl : Instr) (cr cm : CostTable → Nat)
    (rot : Byte → Bool → Byte × Bool) : Prop where
  bytes_reg : ∀ r, encode (onReg r) = [0xCB, op (8 * y + r.index)]
  bytes_hl : encode onHl = [0xCB, op (8 * y + 6)]
  wf_reg : ∀ r, WellFormed (onReg r)
  wf_hl : WellFormed onHl
  exec_reg : ∀ (s : State) r,
    exec (onReg r) s = .next ((s.rotateReg r (rot (s.cpu.reg r) (flagC s.cpu.f))).charge (cr s.cfg.cost))
  exec_hl : ∀ s : State, exec onHl s = .next ((s.rotateHl (rot s.readHl (flagC s.cpu.f))).charge (cm s.cfg.cost))
  costs_reg : costs cr 8
  costs_hl : costs cm 15

/-- The rule of a rotate from its numbers: the result, and the bit shifted out. -/
theorem RotateForms.rule {y : Nat} {onReg : Reg → Instr} {onHl : Instr} {cr cm : CostTable → Nat}
    {rot : Byte → Bool → Byte × Bool} {res : Nat → Nat → Nat} {out : Nat → Nat}
    (forms : RotateForms y onReg onHl cr cm rot) (hres : ∀ v c, (rot v c).1.toNat = res v.toNat (carryIn c))
    (hout : ∀ v c, (rot v c).2 = decide (out v.toNat = 1)) : rotateRule y onReg onHl cr cm res out := by
  refine ⟨fun r => decodesTo_of_encode (forms.bytes_reg r) (forms.wf_reg r),
    decodesTo_of_encode forms.bytes_hl forms.wf_hl,
    modifyRule_of_exec (fun v f => ((rot v (flagC f)).1, rotateFlags (rot v (flagC f)).1 (rot v (flagC f)).2))
      forms.exec_reg forms.exec_hl forms.costs_reg forms.costs_hl fun v f => ⟨hres .., ?_⟩⟩
  rw [← hout v (flagC f)]
  exact rotateFlags_spec ..

/-- Settles O41: moving left shifts bit 7 out and moving right bit 0; what enters is the outer bit, C or 0. -/
theorem rotatesAndShifts : Obligations.RotatesAndShifts := by
  refine ⟨RotateForms.rule (rot := fun v _ => rlc8 v) ?_ (fun v _ => rlc8_toNat v) fun v _ => getLsbD_seven_eq_div v,
    RotateForms.rule (rot := fun v _ => rrc8 v) ?_ (fun v _ => rrc8_toNat v) fun v _ => getLsbD_zero_eq v,
    RotateForms.rule (rot := rl8) ?_ shiftInLeft_toNat fun v _ => getLsbD_seven_eq_div v,
    RotateForms.rule (rot := rr8) ?_ shiftInRight_toNat fun v _ => getLsbD_zero_eq v,
    RotateForms.rule (rot := fun v _ => sla8 v) ?_ (fun v _ => shiftInLeft_toNat v false)
      fun v _ => getLsbD_seven_eq_div v,
    RotateForms.rule (rot := fun v _ => sra8 v) ?_ (fun v _ => sra8_toNat v) fun v _ => getLsbD_zero_eq v,
    RotateForms.rule (rot := fun v _ => srl8 v) ?_ (fun v _ => shiftInRight_toNat v false)
      fun v _ => getLsbD_zero_eq v⟩
  all_goals constructor <;> intros <;> rfl

/-! ## Bit test (R270) -/

/-- A bit as a number. -/
theorem not_getLsbD_eq_div (v : Byte) (k : Nat) : (!v.getLsbD k) = decide (v.toNat / 2 ^ k % 2 = 0) := by
  rw [BitVec.getLsbD, Nat.testBit_eq_decide_div_mod_eq, ← decide_not]
  exact decide_eq_decide.2 Nat.mod_two_ne_one

/-- The rule of `Obligations.BitTest` for the flags: `f` before, `g` after. -/
def bitTested (b : BitVec 3) (v f g : Byte) : Prop :=
  flagZ g = decide (v.toNat / 2 ^ b.toNat % 2 = 0) ∧ flagH g = true ∧ flagN g = false ∧ flagS g = flagS f ∧
    flagY g = flagY f ∧ flagX g = flagX f ∧ flagPV g = flagPV f ∧ flagC g = flagC f

theorem bitTested_bitFlags (b : BitVec 3) (v f : Byte) : bitTested b v f (bitFlags f v b) :=
  ⟨(flagZ_bitFlags ..).trans (not_getLsbD_eq_div v b.toNat), flagH_bitFlags .., flagN_bitFlags .., flagS_bitFlags ..,
    flagY_bitFlags .., flagX_bitFlags .., flagPV_bitFlags .., flagC_bitFlags ..⟩

/-- Settles O42: both forms set the flags of R270 and nothing else. -/
theorem bitTest : Obligations.BitTest :=
  ⟨fun _ _ => decodesTo_of_encode rfl rfl, fun _ => decodesTo_of_encode rfl rfl, fun s b =>
    ⟨fun r => ⟨_, bitTested_bitFlags b (s.cpu.reg r) s.cpu.f, rfl, rfl⟩,
      ⟨_, bitTested_bitFlags b (s.memRead s.cpu.hl) s.cpu.f, rfl, rfl⟩⟩⟩

/-! ## Bit reset and bit set (R271, R272) -/

theorem getLsbD_and_not_bitMask (b : BitVec 3) (v : Byte) (k : Nat) (hk : k < 8) :
    (v &&& ~~~bitMask b).getLsbD k = if k = b.toNat then false else v.getLsbD k :=
  (getLsbD_clear_bit v b.toFin ⟨k, hk⟩).trans (if_congr Fin.ext_iff rfl rfl)

theorem getLsbD_or_bitMask (b : BitVec 3) (v : Byte) (k : Nat) (hk : k < 8) :
    (v ||| bitMask b).getLsbD k = if k = b.toNat then true else v.getLsbD k :=
  (getLsbD_set_bit v b.toFin ⟨k, hk⟩).trans (if_congr Fin.ext_iff rfl rfl)

/-- A register write keeps `F`, so writing the old `F` back changes nothing. -/
theorem Cpu.setReg_with_f (c : Cpu) (r : Reg) (v : Byte) : ({ c.setReg r v with f := c.f } : Cpu) = c.setReg r v := by
  cases r <;> rfl

/-- Two instructions that run `out` on an operand and write it back, with `F` kept. -/
theorem modifyRule_of_exec_keeping_flags {onReg : Reg → Instr} {onHl : Instr} {cr cm : CostTable → Nat} {nr nm : Nat}
    {rel : Byte → Byte → Byte → Byte → Prop} (out : Byte → Byte)
    (hreg : ∀ (s : State) r, exec (onReg r) s =
      .next ((s.withCpu (s.cpu.setReg r (out (s.cpu.reg r)))).charge (cr s.cfg.cost)))
    (hhl : ∀ s : State, exec onHl s = .next ((s.writeHl (out s.readHl)).charge (cm s.cfg.cost)))
    (hcr : costs cr nr) (hcm : costs cm nm) (hrel : ∀ v f, rel v f (out v) f) :
    modifyRule onReg onHl cr nr cm nm rel :=
  modifyRule_of_exec (fun v f => (out v, f)) (fun s r => by rw [hreg, Cpu.setReg_with_f]) hhl hcr hcm hrel

/-- Settles O43: the mask has the one bit `b`, and neither form touches `F`. -/
theorem bitResetAndSet : Obligations.BitResetAndSet :=
  ⟨fun _ _ => ⟨decodesTo_of_encode rfl rfl, decodesTo_of_encode rfl rfl⟩,
    fun _ => ⟨decodesTo_of_encode rfl rfl, decodesTo_of_encode rfl rfl⟩, fun b =>
    ⟨modifyRule_of_exec_keeping_flags (· &&& ~~~bitMask b) (fun _ _ => rfl) (fun _ => rfl) rfl rfl
        fun v _ => ⟨rfl, getLsbD_and_not_bitMask b v⟩,
      modifyRule_of_exec_keeping_flags (· ||| bitMask b) (fun _ _ => rfl) (fun _ => rfl) rfl rfl
        fun v _ => ⟨rfl, getLsbD_or_bitMask b v⟩⟩⟩

end Sys2Proof.Machine
end

section
/-! SUPPORT. Ports and system instructions (47_io_system.md, 20_memory.md R70 to R74): the lines of a port address, the
keyboard rows bit by bit, and `R` as it is read; then the statements of the family. -/

namespace Sys2Proof.Machine

open Sys2Proof.Claim

/-! ## The ports -/

/-- The port's low byte is the lower half of its address (47_io_system.md R290). -/
theorem getLsbD_mkWord_low (hi lo : Byte) (k : Nat) (hk : k < 8) : (mkWord hi lo).getLsbD k = lo.getLsbD k := by
  rw [mkWord, BitVec.getLsbD_append, if_pos hk]

/-- `A` is on the upper half of the port's address (47_io_system.md R290). -/
theorem getLsbD_mkWord_high (hi lo : Byte) (k : Nat) : (mkWord hi lo).getLsbD (8 + k) = hi.getLsbD k := by
  rw [mkWord, BitVec.getLsbD_append, if_neg (by omega), Nat.add_sub_cancel_left]

/-- The port `{A, n}` is odd when `n` is (20_memory.md R74). -/
theorem port_getLsbD_zero (a n : Byte) : (mkWord a n).getLsbD 0 = decide (n.toNat % 2 = 1) := by
  rw [getLsbD_mkWord_low a n 0 (by decide), getLsbD_zero_eq]

/-- A bit of an AND over the rows that are selected: set in the start value and in every selected row. -/
theorem getLsbD_foldl_and_selected (deselected : Fin 8 → Bool) (row : Fin 8 → Byte) (rows : List (Fin 8)) (v : Byte)
    (k : Nat) :
    (rows.foldl (fun v i => if deselected i then v else v &&& row i) v).getLsbD k = true ↔
      v.getLsbD k = true ∧ ∀ i ∈ rows, deselected i = false → (row i).getLsbD k = true := by
  induction rows generalizing v with
  | nil => simp
  | cons i rows ih =>
    rw [List.foldl_cons, ih, List.forall_mem_cons]
    cases hi : deselected i <;> simp [and_assoc]

/-- `UlaIn` bit by bit (20_memory.md R71). -/
theorem Bus.ulaIn_getLsbD (bus : Bus) (port : Word) (k : Nat) (hk : k < 8) :
    (bus.ulaIn port).getLsbD k = true ↔
      ∀ row : Fin 8, port.getLsbD (8 + row.val) = false → (bus.kb[row]).getLsbD k = true := by
  have hones : (0xFF#8).getLsbD k = true := by interval_cases k <;> rfl
  refine (getLsbD_foldl_and_selected (fun i => port.getLsbD (8 + i.val)) (fun i => bus.kb[i]) _ _ k).trans ?_
  simp [hones, List.mem_finRange]

/-- `IN A,(n)` on an even port, in terms of the rows that `A` selects (47_io_system.md R290). -/
theorem Bus.portIn_getLsbD_even (bus : Bus) (a n : Byte) (hn : n.toNat % 2 = 0) (k : Nat) (hk : k < 8) :
    (bus.portIn (mkWord a n)).getLsbD k = true ↔
      ∀ row : Fin 8, a.getLsbD row.val = false → (bus.kb[row]).getLsbD k = true := by
  rw [Bus.portIn_even _ _ (by rw [port_getLsbD_zero, hn]; rfl), Bus.ulaIn_getLsbD _ _ k hk]
  simp only [getLsbD_mkWord_high]

theorem extractLsb'_three_toNat (v : Byte) : (v.extractLsb' 0 3).toNat = v.toNat % 8 := by
  simp [BitVec.extractLsb'_toNat]

/-- Settles O44: the parity of the port is that of `n`; an input is read bit by bit, an output writes BORDER alone. -/
theorem portInstructions : Obligations.PortInstructions := by
  refine ⟨fun n => decodesTo_of_encode rfl rfl, fun n => decodesTo_of_encode rfl rfl, fun s n => ?_⟩
  have hport := port_getLsbD_zero s.cpu.a n
  refine ⟨⟨s.bus.portIn (mkWord s.cpu.a n), ⟨rfl, rfl⟩, fun hodd => ?_, fun heven k hk =>
    s.bus.portIn_getLsbD_even _ n heven k hk⟩, rfl, (s.bus.portOut (mkWord s.cpu.a n) s.cpu.a).border, ?_,
    fun hodd => ?_, fun heven => ?_⟩
  · exact Bus.portIn_odd _ _ (by rw [hport, decide_eq_true hodd])
  · rw [exec, execOutNA, Bus.portOut_eq]
    rfl
  · rw [Bus.portOut_eq, hport, hodd]
    rfl
  · rw [Bus.portOut_eq, hport, heven]
    exact extractLsb'_three_toNat s.cpu.a

/-! ## The halted tick and the control instructions -/

theorem machineStep_of_halted (s : State) (htrap : s.trapArmed = false) (hfault : s.cpu.fault = none)
    (hhalted : s.cpu.halted = true) : machineStep s = .next s.haltedTick := by
  simp [machineStep, cpuStep, htrap, hfault, hhalted]

/-- Settles O8: the step is a halted tick, which counts R and adds HALT_COST. -/
theorem haltedStepIsATick : Obligations.HaltedStepIsATick := fun s hfault hhalted htrap =>
  machineStep_of_halted s (s.trapArmed_eq_false htrap) hfault hhalted

/-- Settles O45: the bytes are the encodings, and each instruction writes its control fields alone. -/
theorem controlInstructions : Obligations.ControlInstructions :=
  ⟨decodesTo_of_encode rfl rfl, decodesTo_of_encode rfl rfl, decodesTo_of_encode rfl rfl, decodesTo_of_encode rfl rfl,
    decodesTo_of_encode rfl rfl, decodesTo_of_encode rfl rfl, decodesTo_of_encode rfl rfl,
    fun _ => ⟨⟨rfl, rfl⟩, ⟨rfl, rfl⟩, ⟨rfl, rfl⟩, ⟨rfl, rfl⟩, ⟨rfl, rfl⟩, ⟨rfl, rfl⟩, ⟨rfl, rfl⟩⟩⟩

/-! ## I and R -/

/-- A read of `R` changes the counter of free values alone. -/
theorem State.readR_snd_eq (s : State) : s.readR.2 = { s with free := s.readR.2.free } := by
  unfold State.readR
  cases s.cfg.rPolicy <;> rfl

theorem State.readR_of_m1 (s : State) (h : s.cfg.rPolicy = .m1) : s.readR = (s.cpu.r, s) := by
  rw [State.readR, h]

/-- Bit 7 from one byte and the low seven bits from another. -/
theorem getLsbD_seven_of_merge (r v : Byte) : ((r &&& 0x80#8) ||| (v &&& 0x7F#8)).getLsbD 7 = r.getLsbD 7 := by
  simp

/-- Whatever the policy, bit 7 of `R` is read as it is (10_state.md R25). -/
theorem State.readR_getLsbD_seven (s : State) : s.readR.1.getLsbD 7 = s.cpu.r.getLsbD 7 := by
  unfold State.readR
  cases s.cfg.rPolicy with
  | m1 => rfl
  | any => exact getLsbD_seven_of_merge _ _

/-- The flags of `LD A,I` and `LD A,R` (47_io_system.md R302). -/
theorem loadSpecialFlags_spec (v f : Byte) (iff2 : Bool) :
    resultBits v (loadSpecialFlags v f iff2) ∧ flagH (loadSpecialFlags v f iff2) = false ∧
      flagPV (loadSpecialFlags v f iff2) = iff2 ∧ flagN (loadSpecialFlags v f iff2) = false ∧
      flagC (loadSpecialFlags v f iff2) = flagC f :=
  ⟨resultBits_resultFlags .., flagH_resultFlags .., flagPV_resultFlags .., flagN_resultFlags .., flagC_resultFlags ..⟩

/-- `LD A,R` loads the value that `R` is read as (47_io_system.md R303). -/
theorem exec_ldAR (s : State) :
    exec .ldAR s = .next { s with
      free := s.readR.2.free
      cpu := after s { s.cpu with a := s.readR.1, f := loadSpecialFlags s.readR.1 s.cpu.f s.cpu.iff2 } (·.ldAR) } := by
  rw [exec, execLdAR, State.readR_snd_eq]
  rfl

/-- Settles O46: the loads by their meaning; for `LD A,R` the value and the counter are those of a read of `R`. -/
theorem interruptVectorAndRefreshLoads : Obligations.InterruptVectorAndRefreshLoads := by
  refine ⟨decodesTo_of_encode rfl rfl, decodesTo_of_encode rfl rfl, decodesTo_of_encode rfl rfl,
    decodesTo_of_encode rfl rfl, fun s => ⟨⟨rfl, rfl⟩, ⟨rfl, rfl⟩, ⟨_, loadSpecialFlags_spec .., rfl, rfl⟩, rfl,
      s.readR.1, _, _, loadSpecialFlags_spec .., s.readR_getLsbD_seven, fun hm1 => ?_, exec_ldAR s⟩⟩
  rw [s.readR_of_m1 hm1]
  exact ⟨rfl, rfl⟩

end Sys2Proof.Machine
end

section
/-! SUPPORT. The frame interrupt and the return from it (60_exceptions.md R330 to R333). -/

namespace Sys2Proof.Machine

open Sys2Proof.Claim

/-- Settles O47: the entry field by field is `State.interrupt_taken`; its memory is that of a push of `PC`. -/
theorem interruptEntry : Obligations.InterruptEntry := by
  refine fun s hm => ⟨s.interrupt_lost, fun hfault hiff => ⟨(s.push16 s.cpu.pc).mem, ?_, storedTwo_push16 s hm _⟩⟩
  rw [s.interrupt_taken hfault hiff, ← Word.sub_one_sub_one]
  rfl

/-- Interrupt entry leaves `PC` on the stack, with the stack in RAM (60_exceptions.md R330). -/
theorem State.stackTop_interrupt (s : State) (hm : s.mem.wf) (hfault : s.cpu.fault = none) (hiff : s.cpu.iff1 = true)
    (hhi : romSize ≤ (s.cpu.sp - 1).toNat) (hlo : romSize ≤ (s.cpu.sp - 2).toNat) :
    s.interrupt.stackTop = s.cpu.pc := by
  rw [s.interrupt_taken hfault hiff]
  exact s.stackTop_push16 hm hhi hlo s.cpu.pc

/-- RET, RETI and RETN pop `PC`, and keep interrupts off when both IFF1 and IFF2 are 0 (45_stack_calls.md R242, R244,
R246). -/
theorem exec_return_cpu (i : Instr) (hi : i = .ret ∨ i = .reti ∨ i = .retn) (s : State) :
    ∃ t, exec i s = .next t ∧ t.cpu.pc = s.stackTop ∧ t.cpu.sp = s.cpu.sp + 2 ∧
      (s.cpu.iff1 = false → s.cpu.iff2 = false → t.cpu.iff1 = false ∧ t.cpu.iff2 = false) := by
  obtain ⟨-, -, -, -, heffect⟩ := returns
  obtain ⟨⟨hret, -⟩, -, ⟨hreti, -⟩, ⟨hretn, -⟩⟩ := heffect s
  rcases hi with rfl | rfl | rfl
  · exact ⟨_, hret, rfl, rfl, fun h1 h2 => ⟨h1, h2⟩⟩
  · exact ⟨_, hreti, rfl, rfl, fun h1 h2 => ⟨h1, h2⟩⟩
  · exact ⟨_, hretn, rfl, rfl, fun _ h2 => ⟨h2, h2⟩⟩

/-- Settles O48: the return pops the word that the entry pushed, and `SP` goes down and up by 2. -/
theorem returnFromInterruptResumes : Obligations.ReturnFromInterruptResumes := by
  intro s i hm hfault hiff hhi hlo hi
  obtain ⟨t, ht, hpc, hsp, hoff⟩ := exec_return_cpu i hi s.interrupt
  have htop := s.stackTop_interrupt hm hfault hiff hhi hlo
  have hentry := s.interrupt_taken hfault hiff
  refine ⟨t, ht, hpc.trans htop, ?_, hoff (by rw [hentry]) (by rw [hentry])⟩
  rw [hsp, hentry]
  exact (congrArg (· + 2) (Word.sub_one_sub_one s.cpu.sp)).trans (sub_add_cancel s.cpu.sp 2)

end Sys2Proof.Machine
end

section
/-! SUPPORT. The tape (60_exceptions.md R351 to R355): the container block by block, what a copy of several bytes leaves in
memory, and the fast-load trap on a match and on a mismatch. -/

namespace Sys2Proof.Machine

open Sys2Proof.Claim

/-! ## The container (R351) -/

/-- The two length bytes of a contained block are read back (20_memory.md R65). -/
theorem mkWord_length_bytes_toNat (n : Nat) (hn : n < 65536) : (mkWord (op (n / 256)) (op (n % 256))).toNat = n := by
  rw [mkWord_toNat, BitVec.toNat_ofNat, BitVec.toNat_ofNat]
  omega

/-- A complete block is parsed, and parsing goes on after it. -/
theorem parseTapeFuel_contained (fuel : Nat) (block rest : List Byte) (hblock : block.length < 65536) :
    parseTapeFuel (fuel + 1) (contained block ++ rest) = block :: parseTapeFuel fuel rest := by
  rw [contained, List.cons_append, List.cons_append, parseTapeFuel, mkWord_length_bytes_toNat _ hblock]
  simp

/-- What is no complete block: less than two length bytes, or fewer bytes than they say. -/
def incompleteBlock (tail : List Byte) : Prop :=
  tail.length < 2 ∨ ∃ lo hi rest, tail = lo :: hi :: rest ∧ rest.length < lo.toNat + 256 * hi.toNat

/-- Parsing stops at an incomplete block. -/
theorem parseTapeFuel_incomplete (fuel : Nat) (tail : List Byte) (htail : incompleteBlock tail) :
    parseTapeFuel fuel tail = [] := by
  cases fuel with
  | zero => rfl
  | succ fuel =>
    rcases htail with hshort | ⟨lo, hi, rest, rfl, hrest⟩
    · match tail, hshort with
      | [], _ | [_], _ => rfl
    · rw [parseTapeFuel]
      exact if_pos (by rw [mkWord_toNat]; omega)

/-- With fuel for each block, the blocks are parsed one after the other. -/
theorem parseTapeFuel_flatMap_contained (blocks : List (List Byte)) (tail : List Byte)
    (hblocks : ∀ b ∈ blocks, b.length < 65536) (htail : incompleteBlock tail) (fuel : Nat)
    (hfuel : blocks.length ≤ fuel) : parseTapeFuel fuel (blocks.flatMap contained ++ tail) = blocks := by
  induction blocks generalizing fuel with
  | nil => exact parseTapeFuel_incomplete fuel tail htail
  | cons block blocks ih =>
    obtain ⟨hblock, hblocks⟩ := List.forall_mem_cons.1 hblocks
    obtain ⟨fuel, rfl⟩ : ∃ k, fuel = k + 1 := Nat.exists_eq_add_one.2 (Nat.zero_lt_of_lt hfuel)
    rw [List.flatMap_cons, List.append_assoc, parseTapeFuel_contained fuel block _ hblock,
      ih hblocks fuel (Nat.le_of_succ_le_succ hfuel)]

/-- A container has at least one byte for each block. -/
theorem length_le_flatMap_contained (blocks : List (List Byte)) :
    blocks.length ≤ (blocks.flatMap contained).length := by
  induction blocks with
  | nil => exact le_rfl
  | cons block blocks ih =>
    rw [List.flatMap_cons, List.length_append, List.length_cons, contained, List.length_cons]
    omega

/-- Settles O49: the number of bytes is fuel for every block. -/
theorem tapeContainerParses : Obligations.TapeContainerParses := by
  intro blocks tail hblocks htail
  refine parseTapeFuel_flatMap_contained blocks tail hblocks htail _ ?_
  rw [List.length_append]
  exact (length_le_flatMap_contained blocks).trans (Nat.le_add_right _ _)

/-! ## The copy (R354) -/

/-- What a copy of at most 64 KiB from `x` on leaves: outside ROM, each byte at its place, counted from `x` modulo 65536. -/
theorem Memory.read_writeBytes (vs : List Byte) (m : Memory) (hm : m.wf) (x : Word) (hlen : vs.length ≤ memSize)
    (y : Word) :
    (m.writeBytes x vs).read y.toNat =
      if romSize ≤ y.toNat then (vs[(y - x).toNat]?).getD (m.read y.toNat) else m.read y.toNat := by
  induction vs generalizing m x with
  | nil => simp [Memory.writeBytes]
  | cons v vs ih =>
    rw [List.length_cons, memSize] at hlen
    rw [Memory.writeBytes, ih _ (Memory.wf_write m hm x v) _ (by rw [memSize]; omega), Memory.read_write m hm]
    by_cases hyx : y = x
    · subst hyx
      have hlast : (y - (y + 1)).toNat = 65535 := by bv_omega
      have hfirst : (y - y).toNat = 0 := by rw [sub_self]; rfl
      rw [hlast, hfirst, List.getElem?_eq_none (by omega)]
      by_cases hram : romSize ≤ y.toNat <;> simp [hram]
    · have hnext : (y - x).toNat = (y - (x + 1)).toNat + 1 := by bv_omega
      rw [hnext, List.getElem?_cons_succ, if_neg fun h : y = x ∧ _ => hyx h.1]

/-- The copy of the trap's load mode: at most `n` of the data bytes. -/
theorem Memory.read_writeBytes_take (data : List Byte) (m : Memory) (hm : m.wf) (x : Word) (n : Nat) (hn : n ≤ memSize)
    (y : Word) :
    (m.writeBytes x (data.take n)).read y.toNat =
      if h : (y - x).toNat < min n data.length ∧ 16384 ≤ y.toNat then data[(y - x).toNat]'(by omega)
      else m.read y.toNat := by
  rw [Memory.read_writeBytes _ m hm x ((List.length_take_le n data).trans hn), romSize]
  by_cases hk : (y - x).toNat < min n data.length
  · rw [List.getElem?_take_of_lt (by omega), List.getElem?_eq_getElem (by omega), Option.getD_some]
    by_cases hram : 16384 ≤ y.toNat <;> simp only [hk, hram, and_self, and_false, if_true, if_false, dite_true, dite_false]
  · rw [List.getElem?_eq_none (by rw [List.length_take]; omega), Option.getD_none, ite_self, dif_neg fun h => hk h.1]

/-! ## The trap (R353 to R355) -/

theorem machineStep_of_trap (s : State) (htrap : s.trapArmed = true) :
    machineStep s = .next (s.performFastLoad.charge s.cfg.trapCost) := by
  rw [machineStep, if_pos htrap]

theorem State.trapArmed_eq_true (s : State) (hfault : s.cpu.fault = none) (hplaying : s.tape.playing = true)
    (hpc : s.cpu.pc = s.cfg.ldBytesEntry) : s.trapArmed = true := by
  simp [State.trapArmed, hfault, hplaying, hpc]

/-- Nothing matches when no block with the flag byte `A` is next. -/
theorem State.tapeMatch_eq_none_iff (s : State) :
    s.tapeMatch = none ↔ ∀ data, s.tape.blocks[s.tape.pos]? ≠ some (s.cpu.a :: data) := by
  simp only [Option.eq_none_iff_forall_ne_some, ne_eq, State.tapeMatch_eq_some_iff]

/-- The tape trap, whatever it finds (60_exceptions.md R354): a match sets C and consumes the block, and in load mode its
data bytes are copied; memory is kept otherwise. The return address is read from the memory left. -/
theorem State.performFastLoad_eq (s : State) : ∃ m,
    s.performFastLoad = { s with
      mem := m
      tape := { s.tape with pos := s.tape.pos + s.tapeMatch.isSome.toNat }
      cpu := { s.cpu with
        f := withCarry s.cpu.f s.tapeMatch.isSome, sp := s.cpu.sp + 2
        pc := mkWord (m.read (s.cpu.sp + 1).toNat) (m.read s.cpu.sp.toNat) } } ∧
    (s.tapeMatch = none ∨ flagC s.cpu.f = false → m = s.mem) ∧
    ∀ data, s.tapeMatch = some data → flagC s.cpu.f = true →
      m = s.mem.writeBytes s.cpu.ix (data.take s.cpu.de.toNat) := by
  cases hmatch : s.tapeMatch with
  | none => exact ⟨s.mem, s.performFastLoad_mismatch hmatch, fun _ => rfl, fun _ h => nomatch h⟩
  | some data =>
    refine ⟨_, s.performFastLoad_match data hmatch, fun h => ?_, fun data' hdata hload => ?_⟩
    · rw [h.resolve_left (Option.some_ne_none data)]
      rfl
    · obtain rfl := Option.some.inj hdata
      exact if_pos hload

/-- Settles O50: the trap by `State.performFastLoad_eq`, the copy by what it leaves at each address. -/
theorem fastLoadTrap : Obligations.FastLoadTrap := by
  intro s hm hfault hplaying hpc
  obtain ⟨m, hload, hkept, hcopied⟩ := s.performFastLoad_eq
  rw [step, machineStep_of_trap s (s.trapArmed_eq_true hfault hplaying hpc), hload]
  refine ⟨m, _, _, rfl, flagS_withCarry .., flagZ_withCarry .., flagY_withCarry .., flagH_withCarry ..,
    flagX_withCarry .., flagPV_withCarry .., flagN_withCarry .., fun hno => ?_, fun data hblock => ?_⟩
  · have hnone := s.tapeMatch_eq_none_iff.2 hno
    rw [hnone]
    exact ⟨flagC_withCarry .., rfl, hkept (.inl hnone)⟩
  · have hmatch := (s.tapeMatch_eq_some_iff data).2 hblock
    rw [hmatch]
    refine ⟨flagC_withCarry .., rfl, fun hverify => hkept (.inr hverify), fun hcopy y => ?_⟩
    rw [hcopied data hmatch hcopy]
    exact Memory.read_writeBytes_take data s.mem hm s.cpu.ix _ s.cpu.de.isLt.le y

end Sys2Proof.Machine
end

section
/-! SUPPORT. The frame loop and the scheduler (60_exceptions.md R338 to R344, R357): the order of the loop's checks, what
autotype writes to each key, the ends of a line and of a frame, the machine that is not running, and the requests. -/

namespace Sys2Proof.Machine

open Sys2Proof.Claim

/-! ## The order of the checks (R338, R340) -/

theorem tick_of_stopped (s : State) (hmode : s.sched.mode = .stopped) : tick s = .next s := by
  rw [tick, if_pos hmode]

theorem tick_of_line_over (s : State) (hmode : s.sched.mode ≠ .stopped)
    (hover : s.sched.mode ≠ .running ∨ s.cpu.fault ≠ none ∨ s.lineTarget ≤ s.cpu.tstates) :
    tick s = .next s.endLine := by
  rw [tick, if_neg hmode, if_pos (hover.imp_right (Or.imp_left Option.isSome_iff_ne_none.2))]

/-- A running machine with budget left goes on to the breakpoint check. -/
theorem tick_of_budget (s : State) (hmode : s.sched.mode = .running) (hfault : s.cpu.fault = none)
    (hbudget : s.cpu.tstates < s.lineTarget) :
    tick s = if s.cpu.pc ∈ s.sched.breakpoints then
        .next (State.endLine { s with sched := { s.sched with mode := .paused } })
      else machineStep { s with sched := { s.sched with target := some s.lineTarget } } := by
  rw [tick, if_neg (by simp [hmode]), if_neg (by simp [hmode, hfault, hbudget])]

theorem tickNotices_of_breakpoint (s : State) (hmode : s.sched.mode = .running) (hfault : s.cpu.fault = none)
    (hbudget : s.cpu.tstates < s.lineTarget) (hbreak : s.cpu.pc ∈ s.sched.breakpoints) :
    tickNotices s = [.breakpointHit s.cpu.pc] := by
  rw [tickNotices, if_neg (by simp [hmode]), if_neg (by simp [hmode, hfault, hbudget]), if_pos hbreak]

/-- Settles O51: the obligation's target is the model's `lineTarget`, and each clause takes one branch of the loop. -/
theorem frameLoopOrder : Obligations.FrameLoopOrder := by
  refine fun s => ⟨tick_of_stopped s, fun hmode => ?_, fun hmode hover => ?_, fun hmode hfault hbudget hbreak => ?_,
    fun hmode hfault hbudget hbreak => ?_⟩
  · exact tick_of_line_over s (by simp [hmode]) (.inl (by simp [hmode]))
  · exact tick_of_line_over s (by simp [hmode]) (.inr hover)
  · exact ⟨(tick_of_budget s hmode hfault hbudget).trans (if_pos hbreak),
      tickNotices_of_breakpoint s hmode hfault hbudget hbreak⟩
  · exact (tick_of_budget s hmode hfault hbudget).trans (if_neg hbreak)

/-! ## Autotype (R357) -/

theorem applyKeyEvents_cons (bus : Bus) (frame : Nat) (ev : KeyEvent) (script : List KeyEvent) :
    applyKeyEvents bus frame (ev :: script) =
      applyKeyEvents (if ev.frame = frame then bus.setKeyBit ev.row ev.bit ev.press else bus) frame script :=
  rfl

@[simp] theorem applyKeyEvents_border (bus : Bus) (frame : Nat) (script : List KeyEvent) :
    (applyKeyEvents bus frame script).border = bus.border := by
  induction script generalizing bus with
  | nil => rfl
  | cons ev script ih =>
    rw [applyKeyEvents_cons, ih]
    split <;> rfl

theorem applyKeyEvents_eq (bus : Bus) (frame : Nat) (script : List KeyEvent) :
    applyKeyEvents bus frame script = { bus with kb := (applyKeyEvents bus frame script).kb } := by
  rw [← applyKeyEvents_border bus frame script]

/-- Each key takes the last of the frame's events for it. -/
theorem applyKeyEvents_getLsbD (bus : Bus) (frame : Nat) (script : List KeyEvent) (row bit : Fin 8) :
    ((applyKeyEvents bus frame script).kb[row]).getLsbD bit.val =
      (script.filter fun ev => ev.frame = frame ∧ ev.row = row ∧ ev.bit = bit).getLast?.elim
        ((bus.kb[row]).getLsbD bit.val) fun ev => !ev.press := by
  induction script generalizing bus with
  | nil => rfl
  | cons ev script ih =>
    rw [applyKeyEvents_cons, ih]
    by_cases hev : ev.frame = frame ∧ ev.row = row ∧ ev.bit = bit
    · obtain ⟨rfl, rfl, rfl⟩ := hev
      rw [List.filter_cons_of_pos (by simp), if_pos rfl, List.getLast?_cons, Bus.setKeyBit_getLsbD, if_pos ⟨rfl, rfl⟩]
      cases (script.filter fun e => e.frame = ev.frame ∧ e.row = ev.row ∧ e.bit = ev.bit).getLast? <;> rfl
    · rw [List.filter_cons_of_neg (by simpa using hev)]
      congr 1
      split
      · next hframe =>
        rw [Bus.setKeyBit_getLsbD, if_neg fun h => hev ⟨hframe, h.1.symm, h.2.symm⟩]
      · rfl

/-- Autotype reads the ports, the tape and the parameters, and changes the ports and the tape. -/
theorem State.autotypeStep_eq (s t : State) (hbus : t.bus = s.bus) (htape : t.tape = s.tape) (hcfg : t.cfg = s.cfg) :
    t.autotypeStep = { t with bus := s.autotypeStep.bus, tape := s.autotypeStep.tape } := by
  unfold State.autotypeStep
  rw [hbus, htape, hcfg]
  cases s.tape.autotype with
  | idle => simp only [← hbus, ← htape, ← hcfg]
  | armed n => by_cases hn : n ≤ 1 <;> simp only [hn, if_true, if_false]

theorem State.autotypeStep_of_idle (s : State) (h : s.tape.autotype = .idle) : s.autotypeStep = s := by
  rw [State.autotypeStep, h]

theorem State.autotypeStep_of_armed (s : State) (n : Nat) (h : s.tape.autotype = .armed n) :
    s.autotypeStep = { s with
      bus := applyKeyEvents s.bus (s.cfg.autotypeFrames - n + 1) s.cfg.autotypeScript
      tape := if n ≤ 1 then { s.tape with autotype := .idle, playing := true }
        else { s.tape with autotype := .armed (n - 1) } } := by
  rw [State.autotypeStep, h]
  by_cases hn : n ≤ 1 <;> simp only [hn, if_true, if_false]

@[simp] theorem State.autotypeStep_border (s : State) : s.autotypeStep.bus.border = s.bus.border := by
  cases h : s.tape.autotype with
  | idle => rw [s.autotypeStep_of_idle h]
  | armed n =>
    rw [s.autotypeStep_of_armed n h]
    exact applyKeyEvents_border _ _ _

/-! ## The end of a line and of a frame (R340) -/

/-- The interrupt reads nothing of the video state. -/
theorem State.interrupt_with_video (s : State) (v : Video) :
    State.interrupt { s with video := v } = { s.interrupt with video := v } := by
  unfold State.interrupt
  split <;> rfl

/-- The interrupt at the end of a frame, which a running machine alone takes. -/
def State.frameInterrupt (s : State) : State := if s.sched.mode = .running then s.interrupt else s

theorem State.frameInterrupt_frame (s : State) :
    s.frameInterrupt.bus = s.bus ∧ s.frameInterrupt.video = s.video ∧ s.frameInterrupt.tape = s.tape ∧
      s.frameInterrupt.sched = s.sched ∧ s.frameInterrupt.cfg = s.cfg := by
  unfold State.frameInterrupt
  split <;> simp [State.interrupt_frame]

theorem State.frameInterrupt_of_not_running (s : State) (h : s.sched.mode ≠ .running) : s.frameInterrupt = s :=
  if_neg h

theorem State.frameInterrupt_with_video (s : State) (v : Video) :
    State.frameInterrupt { s with video := v } = { s.frameInterrupt with video := v } := by
  unfold State.frameInterrupt
  rw [State.interrupt_with_video]
  split <;> rfl

/-- FRAMECOUNT and FLASH once a frame is over. -/
def Video.frameOver (v : Video) : Video :=
  { v with
    frameCount := v.frameCount + 1
    flash := if (v.frameCount + 1) % 16 = 0 then !v.flash else v.flash }

/-- The scheduler at the first line of the next frame. -/
def Scheduler.frameOver (c : Scheduler) : Scheduler := { c with line := 0, target := none }

/-- The interrupt, the counters and autotype have no part of the state in common but what autotype only reads. -/
theorem State.endFrame_eq (s : State) :
    s.endFrame = { s.frameInterrupt with
      video := s.video.frameOver, sched := s.sched.frameOver
      bus := s.autotypeStep.bus, tape := s.autotypeStep.tape } := by
  obtain ⟨hbus, hvideo, htape, hsched, hcfg⟩ := s.frameInterrupt_frame
  let counted : State := { s.frameInterrupt with video := s.frameInterrupt.video.frameOver }
  calc s.endFrame
      = { counted.autotypeStep with sched := counted.autotypeStep.sched.frameOver } := rfl
    _ = _ := by rw [State.autotypeStep_eq s counted hbus htape hcfg, ← hvideo, ← hsched]

theorem State.endLine_of_next (s : State) (h : s.sched.line + 1 < s.cfg.linesPerFrame) :
    s.endLine = { s with
      video := { s.video with frame := s.video.frame.set s.sched.line (s.scanline s.sched.line) }
      sched := { s.sched with line := s.sched.line + 1, target := none } } := by
  rw [State.endLine, if_pos h]
  rfl

theorem State.endLine_of_last (s : State) (h : s.cfg.linesPerFrame ≤ s.sched.line + 1) :
    s.endLine = { s.frameInterrupt with
      video := Video.frameOver { s.video with frame := s.video.frame.set s.sched.line (s.scanline s.sched.line) }
      sched := s.sched.frameOver
      bus := s.autotypeStep.bus, tape := s.autotypeStep.tape } := by
  have hauto := State.autotypeStep_eq s (s.renderScanline s.sched.line) rfl rfl rfl
  rw [State.endLine, if_neg (not_lt.2 h), State.endFrame_eq, hauto, State.renderScanline, State.frameInterrupt_with_video]

/-- Settles O52: the last line by `State.endLine_of_last`; idle, autotype's step is none, armed, it writes the keys of its
frame. -/
theorem lineAndFrameEnds : Obligations.LineAndFrameEnds := by
  refine fun s => ⟨s.endLine_of_next, fun hlast => ⟨fun hidle => ?_, fun n harmed => ?_⟩⟩
  · obtain ⟨hbus, -, htape, -⟩ := s.frameInterrupt_frame
    rw [s.endLine_of_last hlast, s.autotypeStep_of_idle hidle, ← hbus, ← htape]
    rfl
  · refine ⟨(applyKeyEvents s.bus (s.cfg.autotypeFrames - n + 1) s.cfg.autotypeScript).kb, ?_, fun row bit => ?_⟩
    · rw [s.endLine_of_last hlast, s.autotypeStep_of_armed n harmed, applyKeyEvents_eq]
      rfl
    · rw [applyKeyEvents_getLsbD]
      split
      · next hnone => rw [hnone]; rfl
      · next hsome => rw [hsome]; rfl

/-! ## Not running (R343, R344) -/

/-- The end of a line of a machine that is not running, which takes no interrupt. -/
theorem State.endLine_frame_of_not_running (s : State) (h : s.sched.mode ≠ .running) :
    s.endLine.cpu = s.cpu ∧ s.endLine.mem = s.mem ∧ s.endLine.tape.pos = s.tape.pos ∧
      s.endLine.bus.border = s.bus.border ∧ s.endLine.sched.mode = s.sched.mode ∧
      s.endLine.sched.breakpoints = s.sched.breakpoints := by
  rcases lt_or_ge (s.sched.line + 1) s.cfg.linesPerFrame with hnext | hlast
  · rw [s.endLine_of_next hnext]
    exact ⟨rfl, rfl, rfl, rfl, rfl, rfl⟩
  · obtain ⟨-, -, -, -, -, -, hpos⟩ := s.autotypeStep_frame
    rw [s.endLine_of_last hlast, s.frameInterrupt_of_not_running h]
    exact ⟨rfl, rfl, hpos, s.autotypeStep_border, rfl, rfl⟩

theorem State.performFastLoad_video_sched (s : State) :
    s.performFastLoad.video = s.video ∧ s.performFastLoad.sched = s.sched := by
  cases h : s.tapeMatch with
  | none => rw [s.performFastLoad_mismatch h]; exact ⟨rfl, rfl⟩
  | some data => rw [s.performFastLoad_match data h]; exact ⟨rfl, rfl⟩

/-- A MachineStep of a machine that is not running touches no scheduler or video state: what an unrecognised opcode does to
the scheduler is to pause a running one (60_exceptions.md R321). -/
theorem machineStep_video_sched (s : State) (h : s.sched.mode ≠ .running) :
    ∃ t, machineStep s = .next t ∧ t.sched = s.sched ∧ t.video = s.video := by
  rcases machineStep_cases s with ⟨-, hstep⟩ | ⟨-, -, hstep⟩ | ⟨-, -, -, hstep⟩ | ⟨-, -, -, i, -, hstep⟩ |
    ⟨-, -, -, e, -, hstep⟩
  · obtain ⟨hvideo, hsched⟩ := s.performFastLoad_video_sched
    exact ⟨_, hstep, hsched, hvideo⟩
  · exact ⟨_, hstep, rfl, rfl⟩
  · exact ⟨_, hstep, rfl, rfl⟩
  · obtain ⟨t, ht, -⟩ := exec_next_kb_cfg i (s.fetched i)
    obtain ⟨-, hvideo, -, hsched⟩ := exec_keeps_outside i _ t ht
    exact ⟨t, hstep.trans ht, by rw [hsched, State.fetched_sched], by rw [hvideo, State.fetched_video]⟩
  · exact ⟨_, hstep, by simp [h], rfl⟩

theorem hostStep_of_paused (s : State) (h : s.sched.mode = .paused) : hostAct .hostStep s = machineStep s :=
  if_pos h

/-- Settles O53: the frame loop of a machine that is not running ends lines at most; the single-step is a MachineStep. -/
theorem pausedMachine : Obligations.PausedMachine := by
  refine ⟨fun s t hmode ht => ?_, fun s hmode => ?_⟩
  · by_cases hstopped : s.sched.mode = .stopped
    · obtain rfl := Host.Outcome.next.inj ((tick_of_stopped s hstopped).symm.trans ht)
      exact ⟨rfl, rfl, rfl, rfl, rfl, rfl⟩
    · obtain rfl := Host.Outcome.next.inj ((tick_of_line_over s hstopped (.inl hmode)).symm.trans ht)
      exact s.endLine_frame_of_not_running hmode
  · obtain ⟨t, ht, hsched, hvideo⟩ := machineStep_video_sched s (by simp [hmode])
    exact ⟨t, (hostStep_of_paused s hmode).trans ht, ht, hsched, hvideo⟩

/-! ## Requests (R341) -/

theorem hostAct_start (s : State) :
    hostAct .start s = .next (if s.sched.mode = .stopped then
      { s with sched := { s.sched with mode := .running, line := 0, target := none } } else s) := by
  rw [hostAct, Scheduler.start]
  split <;> rfl

theorem hostAct_pause (s : State) :
    hostAct .pause s = .next (if s.sched.mode = .running then
      { s with sched := { s.sched with mode := .paused, target := none } } else s) := by
  rw [hostAct, Scheduler.pause]
  split <;> rfl

theorem hostAct_resume (s : State) :
    hostAct .resume s = .next (if s.sched.mode = .paused ∧ s.cpu.fault = none then
      { s with sched := { s.sched with mode := .running } } else s) := by
  simp only [hostAct, Scheduler.resume, Option.isSome_eq_false_iff, Option.isNone_iff_eq_none]
  split <;> rfl

/-- A pause ends the line's budget, a single-step leaves the scheduler alone, so the line resumed has a full budget (R343,
R344). -/
theorem pause_step_resume (s : State) (hmode : s.sched.mode = .running) :
    ∃ p t u, hostAct .pause s = .next p ∧ hostAct .hostStep p = .next t ∧ hostAct .resume t = .next u ∧
      (t.cpu.fault = none → u.sched.mode = .running ∧ u.cpu.tstates = t.cpu.tstates ∧
        u.lineTarget = u.cpu.tstates + u.cfg.tstatesPerLine) := by
  let p : State := { s with sched := { s.sched with mode := .paused, target := none } }
  have hp : hostAct .pause s = .next p := by rw [hostAct_pause, if_pos hmode]
  obtain ⟨t, ht, hsched, -⟩ := machineStep_video_sched p SchedMode.noConfusion
  refine ⟨p, t, _, hp, ht, hostAct_resume t, fun hfault => ?_⟩
  have hpaused : t.sched.mode = .paused := by rw [hsched]
  have htarget : t.sched.target = none := by rw [hsched]
  rw [if_pos ⟨hpaused, hfault⟩]
  exact ⟨rfl, rfl, by rw [State.lineTarget, htarget]; rfl⟩

/-- Settles O54: each request by its transition. -/
theorem schedulerRequests : Obligations.SchedulerRequests := fun s =>
  ⟨hostAct_start s, hostAct_pause s, hostAct_resume s, rfl, hostAct_hostStep s, fun hmode _ => pause_step_resume s hmode⟩

end Sys2Proof.Machine
end

section
/-! SUPPORT. The video generator (60_exceptions.md R345, R346): the screen addresses in arithmetic, the colours of a
cell, and the pixels of a rendered row, left to right. -/

namespace Sys2Proof.Machine

/-! ## Addresses (R346) -/

/-- A segment of `n` bits from bit `a` on, left in its place. -/
theorem and_segment_mask (y n a : Nat) : y &&& (2 ^ n - 1) <<< a = y / 2 ^ a % 2 ^ n * 2 ^ a := by
  rw [← Nat.and_two_pow_sub_one_eq_mod, ← Nat.shiftRight_eq_div_pow, ← Nat.shiftLeft_eq]
  refine Nat.eq_of_testBit_eq fun j => ?_
  by_cases hj : a ≤ j <;> simp [Nat.testBit_shiftLeft, Nat.testBit_shiftRight, hj, Bool.and_comm]

/-- The three segments of a line number, `y[7:6]`, `y[2:0]` and `y[5:3]`, in their places in the bitmap offset. -/
theorem bitmapOffset_eq (y : Nat) (hy : y < 192) :
    (y &&& 0xC0) <<< 5 + (y &&& 0x07) <<< 8 + (y &&& 0x38) <<< 2 =
      2048 * (y / 64) + 256 * (y % 8) + 32 * (y / 8 % 8) := by
  have hthird : y &&& 0xC0 = y / 64 % 4 * 64 := and_segment_mask y 2 6
  have hrow : y &&& 0x07 = y / 1 % 8 * 1 := and_segment_mask y 3 0
  have hcell : y &&& 0x38 = y / 8 % 8 * 8 := and_segment_mask y 3 3
  rw [hthird, hrow, hcell, Nat.shiftLeft_eq, Nat.shiftLeft_eq, Nat.shiftLeft_eq]
  omega

theorem bitmapAddr_toNat (c : Config) (y col : Nat) (hbase : c.bitmapBase = 0x4000) (hy : y < 192) (hcol : col < 32) :
    (bitmapAddr c y col).toNat = 0x4000 + 2048 * (y / 64) + 256 * (y % 8) + 32 * (y / 8 % 8) + col := by
  rw [bitmapAddr, hbase, bitmapOffset_eq y hy, BitVec.toNat_add, BitVec.toNat_ofNat, show (0x4000 : Word).toNat = 0x4000 from rfl]
  omega

theorem attrAddr_toNat (c : Config) (y col : Nat) (hbase : c.attrBase = 0x5800) (hy : y < 192) (hcol : col < 32) :
    (attrAddr c y col).toNat = 0x5800 + 32 * (y / 8) + col := by
  rw [attrAddr, hbase, BitVec.toNat_add, BitVec.toNat_ofNat, show (0x5800 : Word).toNat = 0x5800 from rfl]
  omega

/-- Settles O56: the addresses in arithmetic, and no two cells have the same segments and column. -/
theorem screenAddresses : Obligations.ScreenAddresses := by
  intro c y col hbitmap hattr hy hcol
  refine ⟨bitmapAddr_toNat c y col hbitmap hy hcol, attrAddr_toNat c y col hattr hy hcol, fun y' col' hy' hcol' heq => ?_⟩
  have hnat := congrArg BitVec.toNat heq
  rw [bitmapAddr_toNat c y col hbitmap hy hcol, bitmapAddr_toNat c y' col' hbitmap hy' hcol'] at hnat
  omega

/-! ## Colours -/

theorem inkOf_toNat (attr : Byte) : (inkOf attr).toNat = attr.toNat % 8 + 8 * (attr.toNat / 64 % 2) := by
  revert attr
  decide

theorem paperOf_toNat (attr : Byte) : (paperOf attr).toNat = attr.toNat / 8 % 8 + 8 * (attr.toNat / 64 % 2) := by
  revert attr
  decide

theorem borderPixel_toNat (border : BitVec 3) : (borderPixel border).toNat = border.toNat := by
  revert border
  decide

theorem getLsbD_eq_decide_div (v : Byte) (k : Nat) : v.getLsbD k = decide (v.toNat / 2 ^ k % 2 = 1) := by
  rw [BitVec.getLsbD, Nat.testBit_eq_decide_div_mod_eq]

/-! ## Cells -/

theorem cellPixels_length (bits attr : Byte) (flash : Bool) : (cellPixels bits attr flash).length = 8 := by
  simp [cellPixels]

/-- The colour index of a pixel of a cell row, by the numbers of the cell's bitmap byte and colour byte. -/
def cellColour (bits attr : Nat) (flash : Bool) (k : Nat) : Nat :=
  let bright := 8 * (attr / 64 % 2)
  let swap := decide (attr / 128 = 1) && flash
  let ink := (if swap then attr / 8 % 8 else attr % 8) + bright
  let paper := (if swap then attr % 8 else attr / 8 % 8) + bright
  if bits / 2 ^ (7 - k) % 2 = 1 then ink else paper

theorem cellPixels_getElem?_toNat (bits attr : Byte) (flash : Bool) (k : Nat) (hk : k < 8) :
    (cellPixels bits attr flash)[k]?.map BitVec.toNat = some (cellColour bits.toNat attr.toNat flash k) := by
  rw [cellPixels, List.getElem?_map, List.getElem?_range hk, Option.map_some, Option.map_some, cellColour,
    getLsbD_eq_decide_div, getLsbD_seven_eq_div]
  cases decide (attr.toNat / 128 = 1) && flash <;>
    · simp only [decide_eq_true_eq, apply_ite BitVec.toNat, inkOf_toNat, paperOf_toNat]
      rfl

/-- The place of an entry in a row of cells of eight. -/
theorem getElem?_flatMap_eight {α β : Type} (cell : α → List β) (hcell : ∀ a, (cell a).length = 8) (as : List α)
    (col k : Nat) (hk : k < 8) : (as.flatMap cell)[8 * col + k]? = as[col]?.bind fun a => (cell a)[k]? := by
  induction as generalizing col with
  | nil => rfl
  | cons a as ih =>
    rw [List.flatMap_cons]
    cases col with
    | zero => rw [List.getElem?_append_left (by rw [hcell]; omega), Nat.mul_zero, Nat.zero_add]; rfl
    | succ col =>
      rw [List.getElem?_append_right (by rw [hcell]; omega), hcell, List.getElem?_cons_succ, ← ih col]
      congr 1
      omega

/-! ## Rows (R345) -/

/-- The cells of a display line. -/
def State.displayCells (s : State) (y : Nat) : List Pixel :=
  (List.range bytesPerLine).flatMap fun col =>
    cellPixels (s.memRead (bitmapAddr s.cfg y col)) (s.memRead (attrAddr s.cfg y col)) s.video.flash

theorem State.displayCells_length (s : State) (y : Nat) : (s.displayCells y).length = 256 := by
  simp [State.displayCells, List.length_flatMap, cellPixels_length, bytesPerLine]

theorem State.displayCells_getElem?_toNat (s : State) (y col k : Nat) (hcol : col < 32) (hk : k < 8) :
    (s.displayCells y)[8 * col + k]?.map BitVec.toNat =
      some (cellColour (s.memRead (bitmapAddr s.cfg y col)).toNat (s.memRead (attrAddr s.cfg y col)).toNat
        s.video.flash k) := by
  rw [State.displayCells, getElem?_flatMap_eight _ (fun _ => cellPixels_length _ _ _) _ col k hk,
    List.getElem?_range (by rw [bytesPerLine]; exact hcol), Option.bind_some,
    cellPixels_getElem?_toNat _ _ _ k hk]

theorem State.scanline_of_border (s : State) (line : Nat)
    (h : line < s.cfg.firstDisplayLine ∨ s.cfg.firstDisplayLine + s.cfg.displayLines ≤ line) :
    s.scanline line = List.replicate s.cfg.frameWidth (borderPixel s.bus.border) :=
  if_pos h

theorem State.scanline_of_display (s : State) (y : Nat) (hy : y < s.cfg.displayLines) :
    s.scanline (s.cfg.firstDisplayLine + y) =
      List.replicate s.cfg.borderLeft (borderPixel s.bus.border) ++ s.displayCells y ++
        List.replicate s.cfg.borderRight (borderPixel s.bus.border) := by
  rw [State.scanline, if_neg (by omega), Nat.add_sub_cancel_left]
  rfl

theorem border_getElem?_toNat (border : BitVec 3) (n x : Nat) (hx : x < n) :
    (List.replicate n (borderPixel border))[x]?.map BitVec.toNat = some border.toNat := by
  rw [List.getElem?_replicate_of_lt hx, Option.map_some, borderPixel_toNat]

/-- The three parts of a display line: the left side, the cells, the right side. -/
theorem State.scanline_of_display_getElem? (s : State) (y : Nat) (hy : y < s.cfg.displayLines) :
    (∀ x, x < s.cfg.borderLeft →
      (s.scanline (s.cfg.firstDisplayLine + y))[x]?.map BitVec.toNat = some s.bus.border.toNat) ∧
    (∀ x, x < s.cfg.borderRight →
      (s.scanline (s.cfg.firstDisplayLine + y))[s.cfg.borderLeft + 256 + x]?.map BitVec.toNat =
        some s.bus.border.toNat) ∧
    ∀ x, x < 256 → (s.scanline (s.cfg.firstDisplayLine + y))[s.cfg.borderLeft + x]? = (s.displayCells y)[x]? := by
  have hcells := s.displayCells_length y
  rw [s.scanline_of_display y hy]
  refine ⟨fun x hx => ?_, fun x hx => ?_, fun x hx => ?_⟩
  · rw [List.append_assoc, List.getElem?_append_left (by simpa using hx), border_getElem?_toNat _ _ _ hx]
  · rw [List.getElem?_append_right (by simp [hcells]), List.length_append, List.length_replicate, hcells,
      Nat.add_sub_cancel_left, border_getElem?_toNat _ _ _ hx]
  · rw [List.append_assoc, List.getElem?_append_right (by simp), List.length_replicate, Nat.add_sub_cancel_left,
      List.getElem?_append_left (by rw [hcells]; exact hx)]

/-- Settles O55: the row written is the scanline, a border line's by `State.scanline_of_border`, a display line's in its
three parts. -/
theorem renderedScanline : Obligations.RenderedScanline := by
  intro s line hline t border pixel
  have hpixel (x : Nat) : pixel x = (s.scanline line)[x]?.map BitVec.toNat := by
    simp only [pixel, t, State.renderScanline_video, List.getElem?_set_self hline, Option.bind_some]
  refine ⟨rfl, fun k hk => List.getElem?_set_ne (Ne.symm hk), fun hborder x hx => ?_, fun y hy hdisplay => ?_⟩
  · rw [hpixel, s.scanline_of_border line hborder]
    exact border_getElem?_toNat _ _ _ hx
  · subst hy
    obtain ⟨hleft, hright, hcells⟩ := s.scanline_of_display_getElem? y hdisplay
    refine ⟨fun x hx => (hpixel x).trans (hleft x hx), fun x hx => (hpixel _).trans (hright x hx), fun col k hcol hk => ?_⟩
    rw [hpixel, Nat.add_assoc, hcells _ (by omega)]
    exact s.displayCells_getElem?_toNat y col k hcol hk

end Sys2Proof.Machine
end

section
/-! SUPPORT. The reset sequence (70_reset_and_hazards.md R400, R401). -/

namespace Sys2Proof.Machine

/-- RAM after a reset in the deterministic test mode (10_state.md R44). -/
theorem Memory.read_romPart_ram (m : Memory) (a : Nat) (ha : romSize ≤ a) : m.romPart.read a = 0 :=
  Memory.read_of_not_listed _ a fun p hp => by
    have hrom : p.1 < romSize := of_decide_eq_true (List.mem_filter.1 hp).2
    omega

theorem State.restart_mode (s : State) :
    s.restart.sched.mode = if s.sched.mode = .stopped then .stopped else .running := by
  unfold State.restart
  cases s.sched.mode <;> rfl

/-- In the deterministic test mode the CPU after a reset is that of creation (10_state.md R44). -/
theorem Cpu.afterReset_zero (draw : Nat) : Cpu.afterReset .zero draw = State.reset.cpu := by
  rw [Cpu.afterReset]
  rfl

/-- The registers, BORDER and RAM after a reset in the deterministic test mode. -/
theorem State.restart_of_zero (s : State) (h : s.cfg.ramResetMode = .zero) :
    s.restart.mem = s.mem.romPart ∧ s.restart.bus.border = 0 ∧ s.restart.cpu = State.reset.cpu := by
  rw [State.restart, h]
  exact ⟨rfl, rfl, Cpu.afterReset_zero s.free⟩

/-- Settles O57: the fields that both modes fix by definition, ROM by `Memory.read_afterReset_rom`, the test mode by
`State.restart_of_zero`. -/
theorem resetSequence : Obligations.ResetSequence := by
  intro s t
  refine ⟨rfl, rfl, rfl, rfl, rfl, rfl, rfl, rfl, rfl, rfl, rfl, rfl, rfl, rfl, rfl, rfl, rfl, s.restart_mode,
    Memory.read_afterReset_rom s.mem _ _, fun hzero => ?_⟩
  obtain ⟨hmem, hborder, hcpu⟩ := s.restart_of_zero hzero
  refine ⟨fun a ha => ?_, hborder, ?_⟩
  · rw [hmem, Memory.read_romPart_ram s.mem a ha]
  · rw [hcpu]
    exact ⟨fun r => by cases r <;> rfl, rfl, rfl, rfl, rfl, rfl, rfl, rfl, rfl, rfl, rfl, rfl, rfl⟩

theorem inv_reset : Inv State.reset where
  mem_wf := by decide
  tape_pos := le_rfl
  fault_bytes := fun _ h => nomatch h
  breakpoints_rising := List.Pairwise.nil
  frame_height := List.length_replicate
  frame_width := fun row hrow => by
    rw [List.eq_of_mem_replicate hrow]
    exact List.length_replicate
  line_lt := by decide
  target_held := fun h => absurd rfl h
  iff_equal := rfl
  cfg_valid := by decide

/-- Settles O9: in the test mode a reset of the empty memory and the zeroed CPU gives them back. -/
theorem resetHasTheInvariantAndIsAReset : Obligations.ResetHasTheInvariantAndIsAReset := ⟨inv_reset, rfl⟩

end Sys2Proof.Machine
end
